-- ==== Sys2Proof/Word.lean ====
section
/-! DEFINITION. The word types of the machine, from spec/00_scope.md rules R5 and R7 and
spec/10_state.md: each width is the one width the spec gives that thing. -/

namespace Sys2Proof

/-- A byte of memory, a general register, a timer (R5: `REG_BITS`, `TIMER_BITS`; R28: 8 bits per entry). -/
abbrev Byte := BitVec 8

/-- An instruction word (R70), and the width of the address register I (R23). -/
abbrev Word := BitVec 16

/-- A 12-bit address: the program counter and the entries of the call stack (R24, R26), and the
field NNN (R71). -/
abbrev Addr := BitVec 12

/-- A 4-bit field: a register index X or Y, or the low nibble N (R20, R71). -/
abbrev Nibble := BitVec 4

end Sys2Proof
end

