-- ==== Sys2Proof/Syntax.lean ====
section
/-! DEFINITION. The 34 instructions of spec/30_encoding.md rule R77 and spec/opcode_table.json, one
constructor per row, named after the row's pattern (R82). The operands are the fields of R71, at
exactly their widths, so every term is an instruction. A bit group that the instruction ignores
(R73, R76) is kept as the last operand, so that a legal word and its instruction carry the same
bits (log entry 20); no meaning reads it. -/

namespace Sys2Proof

/-- One decoded instruction: a row of the opcode map R77 with its fields. -/
inductive Instr where
  /-- 00E0, clear the screen (R183). -/
  | op00E0
  /-- 00EE, return from subroutine (R113). -/
  | op00EE
  /-- 1NNN, jump (R114). -/
  | op1NNN (nnn : Addr)
  /-- 2NNN, call subroutine (R115). -/
  | op2NNN (nnn : Addr)
  /-- 3XNN, skip if equal to immediate (R116). -/
  | op3XNN (x : Nibble) (nn : Byte)
  /-- 4XNN, skip if not equal to immediate (R117). -/
  | op4XNN (x : Nibble) (nn : Byte)
  /-- 5XY0, skip if registers equal (R118); `n` is the ignored low nibble (R76). -/
  | op5XY0 (x y n : Nibble)
  /-- 6XNN, load immediate (R131). -/
  | op6XNN (x : Nibble) (nn : Byte)
  /-- 7XNN, add immediate, no carry (R132). -/
  | op7XNN (x : Nibble) (nn : Byte)
  /-- 8XY0, copy register (R133). -/
  | op8XY0 (x y : Nibble)
  /-- 8XY1, bitwise OR (R134). -/
  | op8XY1 (x y : Nibble)
  /-- 8XY2, bitwise AND (R135). -/
  | op8XY2 (x y : Nibble)
  /-- 8XY3, bitwise XOR (R136). -/
  | op8XY3 (x y : Nibble)
  /-- 8XY4, add with carry out (R137). -/
  | op8XY4 (x y : Nibble)
  /-- 8XY5, subtract Vy from Vx (R138). -/
  | op8XY5 (x y : Nibble)
  /-- 8XY6, shift right by one (R139); `y` is decoded and ignored. -/
  | op8XY6 (x y : Nibble)
  /-- 8XY7, subtract Vx from Vy (R140). -/
  | op8XY7 (x y : Nibble)
  /-- 8XYE, shift left by one (R141); `y` is decoded and ignored. -/
  | op8XYE (x y : Nibble)
  /-- 9XY0, skip if registers differ (R119); `n` is the ignored low nibble (R76). -/
  | op9XY0 (x y n : Nibble)
  /-- ANNN, load address register (R160). -/
  | opANNN (nnn : Addr)
  /-- BNNN, jump with offset V0 (R120). -/
  | opBNNN (nnn : Addr)
  /-- CXNN, random byte masked (R142). -/
  | opCXNN (x : Nibble) (nn : Byte)
  /-- DXYN, draw sprite (R186). -/
  | opDXYN (x y n : Nibble)
  /-- EX9E, skip if key pressed (R202). -/
  | opEX9E (x : Nibble)
  /-- EXA1, skip if key not pressed (R203). -/
  | opEXA1 (x : Nibble)
  /-- FX07, read delay timer (R205). -/
  | opFX07 (x : Nibble)
  /-- FX0A, wait for a key (R204). -/
  | opFX0A (x : Nibble)
  /-- FX15, set delay timer (R206). -/
  | opFX15 (x : Nibble)
  /-- FX18, set sound timer (R207). -/
  | opFX18 (x : Nibble)
  /-- FX1E, add register to I (R161). -/
  | opFX1E (x : Nibble)
  /-- FX29, point I at a font glyph (R162). -/
  | opFX29 (x : Nibble)
  /-- FX33, store decimal digits (R164). -/
  | opFX33 (x : Nibble)
  /-- FX55, store registers V0 to Vx (R166). -/
  | opFX55 (x : Nibble)
  /-- FX65, load registers V0 to Vx (R168). -/
  | opFX65 (x : Nibble)
  deriving DecidableEq, Repr

end Sys2Proof
end

