-- ==== Sys2Proof/WellFormed.lean ====
section
/-! DEFINITION. Which instruction words are well formed: spec/30_encoding.md rules R78 and R79 name the
illegal words as four sets, and every other word is an instruction (R80, R81). The sets are written
here over the number of the word, apart from the decoder, so that the two can be compared.

The terms of `Instr` need no check of their own: each operand has exactly the width of its field, so
every term is an instruction the encoding admits. The host's commands have theirs in
`Sys2Proof/Machine/Commands.lean` (R14). -/

namespace Sys2Proof

/-- Class 0 of R79: `0x0NNN` except 0x00E0 and 0x00EE (R78). -/
def illegalClass0 (w : Word) : Bool :=
  w.toNat / 4096 == 0 && w.toNat != 0x00E0 && w.toNat != 0x00EE

/-- Class 8 of R79: `0x8XYn` with n in 8, 9, A, B, C, D, F. -/
def illegalClass8 (w : Word) : Bool :=
  w.toNat / 4096 == 8 && [0x8, 0x9, 0xA, 0xB, 0xC, 0xD, 0xF].contains (w.toNat % 16)

/-- Class E of R79: `0xEXss` with ss not 0x9E or 0xA1. -/
def illegalClassE (w : Word) : Bool :=
  w.toNat / 4096 == 0xE && !([0x9E, 0xA1].contains (w.toNat % 256))

/-- Class F of R79: `0xFXss` with ss none of the nine sub-opcodes. -/
def illegalClassF (w : Word) : Bool :=
  w.toNat / 4096 == 0xF &&
    !([0x07, 0x0A, 0x15, 0x18, 0x1E, 0x29, 0x33, 0x55, 0x65].contains (w.toNat % 256))

/-- A word is well formed when it lies in none of the four illegal sets of R79. -/
def wellFormedWord (w : Word) : Bool :=
  !(illegalClass0 w || illegalClass8 w || illegalClassE w || illegalClassF w)

end Sys2Proof
end

