-- ==== Sys2Proof/Decode.lean ====
section
/-! DEFINITION. The encoding of spec/30_encoding.md: the fields of a word (R71), the decoder by class and
sub-opcode (R74 to R76), total on every word and every byte string and refusing by name (R80, R81),
the encoder written from the same formats (R73), and the opcode map of R77 as a table. -/

namespace Sys2Proof

/-! ### The fields of a word (R71) -/

/-- `w[15:12]`, the opcode class. -/
def Word.opClass (w : Word) : Nibble := w.extractLsb' 12 4

/-- `w[11:8]`, the first register index. -/
def Word.fieldX (w : Word) : Nibble := w.extractLsb' 8 4

/-- `w[7:4]`, the second register index. -/
def Word.fieldY (w : Word) : Nibble := w.extractLsb' 4 4

/-- `w[3:0]`, the low nibble. -/
def Word.fieldN (w : Word) : Nibble := w.extractLsb' 0 4

/-- `w[7:0]`, the low byte. -/
def Word.fieldNN (w : Word) : Byte := w.extractLsb' 0 8

/-- `w[11:0]`, the low three nibbles. -/
def Word.fieldNNN (w : Word) : Addr := w.extractLsb' 0 12

/-! ### The decoder -/

/-- Why bytes are not an instruction. -/
inductive DecodeError where
  /-- The word matches no row of the opcode map; the error carries the raw word (R80). -/
  | undefinedOpcode (w : Word)
  /-- Fewer than the two bytes of an instruction (R70). Only `decodeBytes` gives it: a fetch always
  reads two bytes. -/
  | truncated (length : Nat)
  deriving DecidableEq, Repr

/-- Secondary dispatch of class 0 on the whole word (R75). -/
def decodeClass0 (w : Word) : Except DecodeError Instr :=
  match w with
  | 0x00E0#16 => .ok .op00E0
  | 0x00EE#16 => .ok .op00EE
  | _ => .error (.undefinedOpcode w)

/-- Secondary dispatch of class 8 on N (R75). -/
def decodeClass8 (w : Word) : Except DecodeError Instr :=
  match Word.fieldN w with
  | 0x0#4 => .ok (.op8XY0 (Word.fieldX w) (Word.fieldY w))
  | 0x1#4 => .ok (.op8XY1 (Word.fieldX w) (Word.fieldY w))
  | 0x2#4 => .ok (.op8XY2 (Word.fieldX w) (Word.fieldY w))
  | 0x3#4 => .ok (.op8XY3 (Word.fieldX w) (Word.fieldY w))
  | 0x4#4 => .ok (.op8XY4 (Word.fieldX w) (Word.fieldY w))
  | 0x5#4 => .ok (.op8XY5 (Word.fieldX w) (Word.fieldY w))
  | 0x6#4 => .ok (.op8XY6 (Word.fieldX w) (Word.fieldY w))
  | 0x7#4 => .ok (.op8XY7 (Word.fieldX w) (Word.fieldY w))
  | 0xE#4 => .ok (.op8XYE (Word.fieldX w) (Word.fieldY w))
  | _ => .error (.undefinedOpcode w)

/-- Secondary dispatch of class E on NN (R75). -/
def decodeClassE (w : Word) : Except DecodeError Instr :=
  match Word.fieldNN w with
  | 0x9E#8 => .ok (.opEX9E (Word.fieldX w))
  | 0xA1#8 => .ok (.opEXA1 (Word.fieldX w))
  | _ => .error (.undefinedOpcode w)

/-- Secondary dispatch of class F on NN (R75). -/
def decodeClassF (w : Word) : Except DecodeError Instr :=
  match Word.fieldNN w with
  | 0x07#8 => .ok (.opFX07 (Word.fieldX w))
  | 0x0A#8 => .ok (.opFX0A (Word.fieldX w))
  | 0x15#8 => .ok (.opFX15 (Word.fieldX w))
  | 0x18#8 => .ok (.opFX18 (Word.fieldX w))
  | 0x1E#8 => .ok (.opFX1E (Word.fieldX w))
  | 0x29#8 => .ok (.opFX29 (Word.fieldX w))
  | 0x33#8 => .ok (.opFX33 (Word.fieldX w))
  | 0x55#8 => .ok (.opFX55 (Word.fieldX w))
  | 0x65#8 => .ok (.opFX65 (Word.fieldX w))
  | _ => .error (.undefinedOpcode w)

/-- The decoder: primary dispatch on the class (R74), total, a pure function of the word (R71, R93). -/
def decode (w : Word) : Except DecodeError Instr :=
  match Word.opClass w with
  | 0x0#4 => decodeClass0 w
  | 0x1#4 => .ok (.op1NNN (Word.fieldNNN w))
  | 0x2#4 => .ok (.op2NNN (Word.fieldNNN w))
  | 0x3#4 => .ok (.op3XNN (Word.fieldX w) (Word.fieldNN w))
  | 0x4#4 => .ok (.op4XNN (Word.fieldX w) (Word.fieldNN w))
  | 0x5#4 => .ok (.op5XY0 (Word.fieldX w) (Word.fieldY w) (Word.fieldN w))
  | 0x6#4 => .ok (.op6XNN (Word.fieldX w) (Word.fieldNN w))
  | 0x7#4 => .ok (.op7XNN (Word.fieldX w) (Word.fieldNN w))
  | 0x8#4 => decodeClass8 w
  | 0x9#4 => .ok (.op9XY0 (Word.fieldX w) (Word.fieldY w) (Word.fieldN w))
  | 0xA#4 => .ok (.opANNN (Word.fieldNNN w))
  | 0xB#4 => .ok (.opBNNN (Word.fieldNNN w))
  | 0xC#4 => .ok (.opCXNN (Word.fieldX w) (Word.fieldNN w))
  | 0xD#4 => .ok (.opDXYN (Word.fieldX w) (Word.fieldY w) (Word.fieldN w))
  | 0xE#4 => decodeClassE w
  | _ => decodeClassF w   -- class 0xF, the only one left

/-- The word in two consecutive bytes, high byte first (R54; D5, log entry 8). -/
def wordOfBytes (hi lo : Byte) : Word := hi ++ lo

/-- Decode the instruction at the front of a byte string, with the bytes after it (R70). -/
def decodeBytes : List Byte → Except DecodeError (Instr × List Byte)
  | hi :: lo :: rest =>
    match decode (wordOfBytes hi lo) with
    | .ok i => .ok (i, rest)
    | .error e => .error e
  | short => .error (.truncated short.length)

/-! ### The encoder -/

/-- Format A of R73: class, NNN. -/
def wordA (c : Nibble) (nnn : Addr) : Word := c ++ nnn

/-- Formats XNN and XS of R73: class, X, and an immediate or a fixed sub-opcode. -/
def wordXNN (c x : Nibble) (nn : Byte) : Word := c ++ (x ++ nn : Addr)

/-- Formats XY and XYN of R73: class, X, Y, and N, a fixed sub-opcode or an ignored nibble. -/
def wordXYN (c x y n : Nibble) : Word := c ++ (x ++ (y ++ n : Byte) : Addr)

/-- The word of an instruction, from the formats of R73 and the patterns of R77. -/
def encode : Instr → Word
  | .op00E0 => 0x00E0
  | .op00EE => 0x00EE
  | .op1NNN nnn => wordA 0x1 nnn
  | .op2NNN nnn => wordA 0x2 nnn
  | .op3XNN x nn => wordXNN 0x3 x nn
  | .op4XNN x nn => wordXNN 0x4 x nn
  | .op5XY0 x y n => wordXYN 0x5 x y n
  | .op6XNN x nn => wordXNN 0x6 x nn
  | .op7XNN x nn => wordXNN 0x7 x nn
  | .op8XY0 x y => wordXYN 0x8 x y 0x0
  | .op8XY1 x y => wordXYN 0x8 x y 0x1
  | .op8XY2 x y => wordXYN 0x8 x y 0x2
  | .op8XY3 x y => wordXYN 0x8 x y 0x3
  | .op8XY4 x y => wordXYN 0x8 x y 0x4
  | .op8XY5 x y => wordXYN 0x8 x y 0x5
  | .op8XY6 x y => wordXYN 0x8 x y 0x6
  | .op8XY7 x y => wordXYN 0x8 x y 0x7
  | .op8XYE x y => wordXYN 0x8 x y 0xE
  | .op9XY0 x y n => wordXYN 0x9 x y n
  | .opANNN nnn => wordA 0xA nnn
  | .opBNNN nnn => wordA 0xB nnn
  | .opCXNN x nn => wordXNN 0xC x nn
  | .opDXYN x y n => wordXYN 0xD x y n
  | .opEX9E x => wordXNN 0xE x 0x9E
  | .opEXA1 x => wordXNN 0xE x 0xA1
  | .opFX07 x => wordXNN 0xF x 0x07
  | .opFX0A x => wordXNN 0xF x 0x0A
  | .opFX15 x => wordXNN 0xF x 0x15
  | .opFX18 x => wordXNN 0xF x 0x18
  | .opFX1E x => wordXNN 0xF x 0x1E
  | .opFX29 x => wordXNN 0xF x 0x29
  | .opFX33 x => wordXNN 0xF x 0x33
  | .opFX55 x => wordXNN 0xF x 0x55
  | .opFX65 x => wordXNN 0xF x 0x65

/-- The two bytes of a word as memory holds them, high byte first (R54). -/
def bytesOfWord (w : Word) : List Byte := [w.extractLsb' 8 8, w.extractLsb' 0 8]

/-! ### The opcode map (R77) -/

/-- One row of the opcode map: a word `w` selects the row whose `w &&& mask` is `pattern` (R77's
"match" column). -/
structure OpcodeRow where
  name : String
  pattern : Word
  mask : Word
  deriving DecidableEq, Repr

/-- A word selects a row (R77). -/
def OpcodeRow.selectedBy (r : OpcodeRow) (w : Word) : Bool := w &&& r.mask == r.pattern

/-- The complete opcode map of R77, in its order. -/
def opcodeMap : List OpcodeRow :=
  [⟨"00E0", 0x00E0, 0xFFFF⟩, ⟨"00EE", 0x00EE, 0xFFFF⟩, ⟨"1NNN", 0x1000, 0xF000⟩, ⟨"2NNN", 0x2000, 0xF000⟩] ++
  [⟨"3XNN", 0x3000, 0xF000⟩, ⟨"4XNN", 0x4000, 0xF000⟩, ⟨"5XY0", 0x5000, 0xF000⟩, ⟨"6XNN", 0x6000, 0xF000⟩] ++
  [⟨"7XNN", 0x7000, 0xF000⟩, ⟨"8XY0", 0x8000, 0xF00F⟩, ⟨"8XY1", 0x8001, 0xF00F⟩, ⟨"8XY2", 0x8002, 0xF00F⟩] ++
  [⟨"8XY3", 0x8003, 0xF00F⟩, ⟨"8XY4", 0x8004, 0xF00F⟩, ⟨"8XY5", 0x8005, 0xF00F⟩, ⟨"8XY6", 0x8006, 0xF00F⟩] ++
  [⟨"8XY7", 0x8007, 0xF00F⟩, ⟨"8XYE", 0x800E, 0xF00F⟩, ⟨"9XY0", 0x9000, 0xF000⟩, ⟨"ANNN", 0xA000, 0xF000⟩] ++
  [⟨"BNNN", 0xB000, 0xF000⟩, ⟨"CXNN", 0xC000, 0xF000⟩, ⟨"DXYN", 0xD000, 0xF000⟩, ⟨"EX9E", 0xE09E, 0xF0FF⟩] ++
  [⟨"EXA1", 0xE0A1, 0xF0FF⟩, ⟨"FX07", 0xF007, 0xF0FF⟩, ⟨"FX0A", 0xF00A, 0xF0FF⟩, ⟨"FX15", 0xF015, 0xF0FF⟩] ++
  [⟨"FX18", 0xF018, 0xF0FF⟩, ⟨"FX1E", 0xF01E, 0xF0FF⟩, ⟨"FX29", 0xF029, 0xF0FF⟩, ⟨"FX33", 0xF033, 0xF0FF⟩] ++
  [⟨"FX55", 0xF055, 0xF0FF⟩, ⟨"FX65", 0xF065, 0xF0FF⟩]

/-- The row of an instruction: its canonical name (R82), match and mask. -/
def Instr.row : Instr → OpcodeRow
  | .op00E0 => ⟨"00E0", 0x00E0, 0xFFFF⟩
  | .op00EE => ⟨"00EE", 0x00EE, 0xFFFF⟩
  | .op1NNN _ => ⟨"1NNN", 0x1000, 0xF000⟩
  | .op2NNN _ => ⟨"2NNN", 0x2000, 0xF000⟩
  | .op3XNN _ _ => ⟨"3XNN", 0x3000, 0xF000⟩
  | .op4XNN _ _ => ⟨"4XNN", 0x4000, 0xF000⟩
  | .op5XY0 _ _ _ => ⟨"5XY0", 0x5000, 0xF000⟩
  | .op6XNN _ _ => ⟨"6XNN", 0x6000, 0xF000⟩
  | .op7XNN _ _ => ⟨"7XNN", 0x7000, 0xF000⟩
  | .op8XY0 _ _ => ⟨"8XY0", 0x8000, 0xF00F⟩
  | .op8XY1 _ _ => ⟨"8XY1", 0x8001, 0xF00F⟩
  | .op8XY2 _ _ => ⟨"8XY2", 0x8002, 0xF00F⟩
  | .op8XY3 _ _ => ⟨"8XY3", 0x8003, 0xF00F⟩
  | .op8XY4 _ _ => ⟨"8XY4", 0x8004, 0xF00F⟩
  | .op8XY5 _ _ => ⟨"8XY5", 0x8005, 0xF00F⟩
  | .op8XY6 _ _ => ⟨"8XY6", 0x8006, 0xF00F⟩
  | .op8XY7 _ _ => ⟨"8XY7", 0x8007, 0xF00F⟩
  | .op8XYE _ _ => ⟨"8XYE", 0x800E, 0xF00F⟩
  | .op9XY0 _ _ _ => ⟨"9XY0", 0x9000, 0xF000⟩
  | .opANNN _ => ⟨"ANNN", 0xA000, 0xF000⟩
  | .opBNNN _ => ⟨"BNNN", 0xB000, 0xF000⟩
  | .opCXNN _ _ => ⟨"CXNN", 0xC000, 0xF000⟩
  | .opDXYN _ _ _ => ⟨"DXYN", 0xD000, 0xF000⟩
  | .opEX9E _ => ⟨"EX9E", 0xE09E, 0xF0FF⟩
  | .opEXA1 _ => ⟨"EXA1", 0xE0A1, 0xF0FF⟩
  | .opFX07 _ => ⟨"FX07", 0xF007, 0xF0FF⟩
  | .opFX0A _ => ⟨"FX0A", 0xF00A, 0xF0FF⟩
  | .opFX15 _ => ⟨"FX15", 0xF015, 0xF0FF⟩
  | .opFX18 _ => ⟨"FX18", 0xF018, 0xF0FF⟩
  | .opFX1E _ => ⟨"FX1E", 0xF01E, 0xF0FF⟩
  | .opFX29 _ => ⟨"FX29", 0xF029, 0xF0FF⟩
  | .opFX33 _ => ⟨"FX33", 0xF033, 0xF0FF⟩
  | .opFX55 _ => ⟨"FX55", 0xF055, 0xF0FF⟩
  | .opFX65 _ => ⟨"FX65", 0xF065, 0xF0FF⟩

/-! ### The table's word -/

/-- The instruction the decoder reads from an instruction whose bits are `w`, numbered as
spec/opcode_table.json numbers them: every instruction is the one 16-bit word (R70), so bit 0 of `w` is
bit 0 of the word, and bits above `nbits` are 0. The word's bytes are laid out high byte first
(R54) and given to `decodeBytes`. -/
def decodeTableWord (nbits w : Nat) : Option Instr :=
  match decodeBytes (bytesOfWord (BitVec.ofNat 16 (w % 2 ^ nbits))) with
  | .ok (i, _) => some i
  | .error _ => none

end Sys2Proof
end

