-- ==== Sys2Proof/Config.lean ====
section
/-! DEFINITION. The fixed parameters of the block (spec/00_scope.md rule R5), each a named constant,
the default values of its arguments (R6), and the one value the spec leaves free: the random byte
of CXNN (R12, R142). The widths of R5 are the types of `Sys2Proof/Word.lean`. -/

namespace Sys2Proof.Config

/-- `MEM_SIZE` of R5: 4096 bytes, addresses 0x000 to 0xFFF. -/
abbrev memSize : Nat := 4096

/-- `PROG_BASE` of R5: the first byte of a program, and the entry point (R251). -/
abbrev progBase : Nat := 0x200

/-- `PROG_MAX` of R5: the longest image LOAD accepts (R14). -/
abbrev progMax : Nat := 0x0E00

/-- `NREGS` of R5. -/
abbrev nRegs : Nat := 16

/-- `STACK_DEPTH` of R5. -/
abbrev stackDepth : Nat := 16

/-- `DISP_W` of R5: columns of the display. -/
abbrev dispW : Nat := 64

/-- `DISP_H` of R5: rows of the display. -/
abbrev dispH : Nat := 32

/-- `NKEYS` of R5: key ids 0x0 to 0xF. -/
abbrev nKeys : Nat := 16

/-- `GLYPH_BYTES` of R5: bytes, and so rows, of one font glyph. -/
abbrev glyphBytes : Nat := 5

/-- The size of the FONT table: 16 glyphs of 5 bytes (R5, R56). It lies at `FONT_BASE` = 0x000. -/
abbrev fontSize : Nat := 80

/-- An 80-byte FONT table (R5, R57). -/
abbrev Font := Vector Byte fontSize

/-- The default FONT of R57, one line a pair of digits. PRESUMED: the spec supplies these bytes from
general knowledge (log entry 3), and the model takes FONT as an argument (`State.font`). -/
def defaultFontBytes : List Byte :=
  [0xF0, 0x90, 0x90, 0x90, 0xF0] ++ [0x20, 0x60, 0x20, 0x20, 0x70] ++   -- 0, 1
  [0xF0, 0x10, 0xF0, 0x80, 0xF0] ++ [0xF0, 0x10, 0xF0, 0x10, 0xF0] ++   -- 2, 3
  [0x90, 0x90, 0xF0, 0x10, 0x10] ++ [0xF0, 0x80, 0xF0, 0x10, 0xF0] ++   -- 4, 5
  [0xF0, 0x80, 0xF0, 0x90, 0xF0] ++ [0xF0, 0x10, 0x20, 0x40, 0x40] ++   -- 6, 7
  [0xF0, 0x90, 0xF0, 0x90, 0xF0] ++ [0xF0, 0x90, 0xF0, 0x10, 0xF0] ++   -- 8, 9
  [0xF0, 0x90, 0xF0, 0x90, 0x90] ++ [0xE0, 0x90, 0xE0, 0x90, 0xE0] ++   -- A, B
  [0xF0, 0x80, 0x80, 0x80, 0xF0] ++ [0xE0, 0x90, 0x90, 0x90, 0xE0] ++   -- C, D
  [0xF0, 0x80, 0xF0, 0x80, 0xF0] ++ [0xF0, 0x80, 0xF0, 0x80, 0x80]      -- E, F

/-- The default FONT of R57 as a table. -/
def defaultFont : Font := ⟨defaultFontBytes.toArray, rfl⟩

/-- The default of `CYCLES_PER_FRAME` (R5, R262). No rule depends on it. -/
abbrev defaultCyclesPerFrame : Nat := 10

/-- The free value of CXNN: the byte of the n-th draw for which the host has supplied none. It has no
body, so nothing can be proved of its value (R12 and R142: the model puts no law on it; log entry 4). -/
opaque rnd : Nat → Byte

end Sys2Proof.Config
end

