-- ==== Sys2Proof/Machine/State.lean ====
section
/-! DEFINITION. The state of the block: the tuple of spec/10_state.md rules R20 to R31, the model's own
fields beside it (the arguments FONT, CYCLES_PER_FRAME and RND of R6, the events the block has
emitted and the commands the host will give), the state after construction (R38), and the reasons a step
can stop. -/

namespace Sys2Proof.Machine

/-- The display: 32 rows of 64 pixels, row-major (R29); the pixel at column x and row y is entry x of
row y, and `true` is lit. -/
abbrev Grid := Vector (Vector Bool Config.dispW) Config.dispH

/-- Memory as the list of the bytes that differ from the reset contents, in one canonical form
(`Memory.wf`, in `Sys2Proof/Machine/Memory.lean`; log entry 21). -/
abbrev Memory := List Host.Cell

/-- The output events of the block (R13). -/
inductive Event where
  /-- `FATAL(opcode)`, with the raw instruction word (R221). -/
  | fatal (w : Word)
  /-- `TONE_START` (R236). -/
  | toneStart
  /-- `RENDER(grid)`, with a copy of the grid (R235). -/
  | render (grid : Grid)
  deriving DecidableEq, Repr

/-- The input commands of the block (R10). A key id is a number, since the host can give one outside
0x0 to 0xF, which is refused (R14). -/
inductive Command where
  /-- `LOAD(bytes)` (R252). -/
  | load (bytes : List Byte)
  /-- `KEY_DOWN(id)` (R201). -/
  | keyDown (id : Nat)
  /-- `KEY_UP(id)` (R201). -/
  | keyUp (id : Nat)
  /-- `CYCLE` (R90). -/
  | cycle
  /-- `FRAME` (R235). -/
  | frame
  /-- `GET_FRAME` (R184). -/
  | getFrame
  deriving DecidableEq, Repr

/-- The two error kinds of R220. Neither stops the machine's step: UndefinedOpcode is a next state with
RUN false (R221), NotPlaying is a no-op (R223). -/
inductive ErrorKind where
  /-- A CYCLE or FRAME while RUN is false (R223). -/
  | notPlaying
  /-- A CYCLE whose word is illegal (R221). -/
  | undefinedOpcode
  deriving DecidableEq, Repr

/-- The state of the block. -/
structure State where
  /-- V0 to VF, 8 bits each (R20); VF is also the flag register (R21). -/
  v : Vector Byte Config.nRegs
  /-- The 16-bit address register I (R23). -/
  i : Word
  /-- The 12-bit program counter (R24). -/
  pc : Addr
  /-- The 4-bit stack pointer (R26). -/
  sp : Nibble
  /-- The call stack, 16 return addresses (R26). -/
  stack : Vector Addr Config.stackDepth
  /-- The delay timer (R27). -/
  dt : Byte
  /-- The sound timer (R27). -/
  st : Byte
  /-- MEM, 4096 bytes (R28). -/
  mem : Memory
  /-- The display buffer (R29). -/
  fb : Grid
  /-- KEYS, the set of held keys: entry k is true when key k is in the set (R30). -/
  keys : Vector Bool Config.nKeys
  /-- The run state (R31). -/
  run : Bool
  /-- The model's own: the argument FONT (R6, R57). No step changes it. -/
  font : Config.Font
  /-- The model's own: the configuration input CYCLES_PER_FRAME (R6, R15). No step changes it. -/
  cyclesPerFrame : Nat
  /-- The model's own: the random bytes the host has supplied, next one first (R12). -/
  rnd : List Byte
  /-- The model's own: how many random bytes have been drawn; the argument of `Config.rnd`. -/
  draws : Nat
  /-- The model's own: the events emitted so far, oldest first (R13). -/
  events : List Event
  /-- The model's own: the commands the host will give, next one first (R10, R227). -/
  host : List Command
  deriving DecidableEq, Repr

/-- The faults of a step. There are none: no legal instruction raises an exception (R222), no address
faults (R51), and the fatal decode error is a next state (R221), so the type has no constructor. -/
inductive Fault where
  deriving DecidableEq, Repr

/-- The refusals of a step. -/
inductive Refusal where
  /-- Raised by an arm of `exec` whose instruction has no meaning; no arm does. Safe. -/
  | notModelled (mnemonic : String)
  /-- Raised by LOAD when its image is longer than 0x0E00 bytes: the spec gives that command no
  transition (R14, H1). Safe: the model stops. -/
  | loadTooLong (length : Nat)
  /-- Raised by KEY_DOWN and KEY_UP when the key id is above 0xF: the spec gives that command no
  transition (R14, H2). Safe: the model stops. -/
  | keyIdOutOfRange (id : Nat)
  deriving DecidableEq, Repr

/-- What a step of this machine answers. -/
abbrev Result := Host.Outcome State Fault Refusal

/-- The state after construction (R38). V, I, STACK, DT, ST and 0x050 to 0x1FF are 0 by decision D9, FB
and KEYS are clear by D20 (log entries 5 and 6); memory lists nothing, so it reads as FONT and
zeros. The model's own fields: the default FONT, the default CYCLES_PER_FRAME, no supplied random byte, no
draw, no event, no waiting command (log entries 1 to 4 and 16). -/
def State.reset : State where
  v := .replicate _ 0
  i := 0
  pc := 0x200
  sp := 0
  stack := .replicate _ 0
  dt := 0
  st := 0
  mem := []
  fb := .replicate _ (.replicate _ false)
  keys := .replicate _ false
  run := false
  font := Config.defaultFont
  cyclesPerFrame := Config.defaultCyclesPerFrame
  rnd := []
  draws := 0
  events := []
  host := []

end Sys2Proof.Machine
end

