-- ==== Sys2Proof/Machine/Memory.lean ====
section
/-! DEFINITION. Memory as a list of cells (spec/20_memory.md): what an unlisted address reads as, one
byte read and written, the image LOAD leaves, and the canonical form. The functions take the FONT,
since it is part of the reset contents, and an address already reduced below 4096 (R51; the
accessors of `Sys2Proof/Machine/Ops.lean` reduce it). -/

namespace Sys2Proof.Machine

/-- What an address reads as when memory does not list it: its reset contents, FONT at 0x000 to 0x04F and
0x00 above (R38, R55, R56). -/
def Memory.unlisted (font : Config.Font) (a : Nat) : Byte := (font[a]?).getD 0

/-- The byte at an address. -/
def Memory.read (font : Config.Font) : Memory → Nat → Byte
  | [], a => Memory.unlisted font a
  | (k, b) :: m, a => if k = a then b else Memory.read font m a

/-- List a byte at its place in the rising order, in place of any listed there. -/
def Memory.insert (a : Nat) (b : Byte) : Memory → Memory
  | [] => [(a, b)]
  | (k, c) :: m =>
    if a < k then (a, b) :: (k, c) :: m
    else if a = k then (a, b) :: m
    else (k, c) :: Memory.insert a b m

/-- Unlist an address. -/
def Memory.erase (a : Nat) : Memory → Memory
  | [] => []
  | (k, c) :: m => if k = a then Memory.erase a m else (k, c) :: Memory.erase a m

/-- Store a byte at an address. Storing what an unlisted address reads as unlists it, so that equal
memories are equal lists. -/
def Memory.write (font : Config.Font) (m : Memory) (a : Nat) (b : Byte) : Memory :=
  if b = Memory.unlisted font a then Memory.erase a m else Memory.insert a b m

/-- The memory that holds `bytes` from address `a` upward and its reset contents elsewhere (R39). -/
def Memory.image (font : Config.Font) : Nat → List Byte → Memory
  | _, [] => []
  | a, b :: bytes =>
    if b = Memory.unlisted font a then Memory.image font (a + 1) bytes
    else (a, b) :: Memory.image font (a + 1) bytes

/-- The canonical form: addresses strictly rising and inside the address space (R50), no entry equal
to what an unlisted address reads as. -/
def Memory.wf (font : Config.Font) (m : Memory) : Bool :=
  decide ((m.map Prod.fst).Pairwise (· < ·)) &&
    m.all fun c => decide (c.1 < Config.memSize) && c.2 != Memory.unlisted font c.1

end Sys2Proof.Machine
end

