-- ==== Sys2Proof/Machine/Ops.lean ====
section
/-! DEFINITION. The shared operations over the state: one home for every register (spec/00_scope.md rule
R8), the byte accesses of memory (R51, R52), the call stack (R111, R112), the skip (R110), the frame
buffer and input primitives (R181, R182, R200), the random draw (R12), the discipline that keeps VF
(R96), and the one exception, UndefinedOpcode (R221). Nothing returns from that exception but LOAD
(R225, in `Sys2Proof/Machine/Commands.lean`). -/

namespace Sys2Proof.Machine

/-! ### Registers (R8) -/

/-- `V[x]`. -/
def State.getV (s : State) (x : Nibble) : Byte := s.v[x.toNat]'x.isLt

/-- `V[x] <- b`. -/
def State.setV (s : State) (x : Nibble) (b : Byte) : State := { s with v := s.v.set x.toNat b x.isLt }

/-- `I <- w`. -/
def State.setI (s : State) (w : Word) : State := { s with i := w }

/-- `PC <- a`. -/
def State.setPc (s : State) (a : Addr) : State := { s with pc := a }

/-- `SP <- k`. -/
def State.setSp (s : State) (k : Nibble) : State := { s with sp := k }

/-- `STACK[k]`. -/
def State.getStack (s : State) (k : Nibble) : Addr := s.stack[k.toNat]'k.isLt

/-- `STACK[k] <- a`. -/
def State.setStack (s : State) (k : Nibble) (a : Addr) : State :=
  { s with stack := s.stack.set k.toNat a k.isLt }

/-- `DT <- b`. -/
def State.setDt (s : State) (b : Byte) : State := { s with dt := b }

/-- `ST <- b`. -/
def State.setSt (s : State) (b : Byte) : State := { s with st := b }

/-- A new MEM. -/
def State.setMem (s : State) (m : Memory) : State := { s with mem := m }

/-- A new FB. -/
def State.setFb (s : State) (g : Grid) : State := { s with fb := g }

/-- A new KEYS. -/
def State.setKeys (s : State) (k : Vector Bool Config.nKeys) : State := { s with keys := k }

/-- `RUN <- b`. -/
def State.setRun (s : State) (b : Bool) : State := { s with run := b }

/-- What is left of the host's commands. -/
def State.setHost (s : State) (cs : List Command) : State := { s with host := cs }

/-- `emit e` (R13). -/
def State.emit (s : State) (e : Event) : State := { s with events := s.events ++ [e] }

/-! ### Memory: one byte at a time, every address reduced to 12 bits (R51, R52) -/

/-- `MemRead(a, 1)`. -/
def State.memRead (s : State) (a : Nat) : Byte := s.mem.read s.font (a % Config.memSize)

/-- `MemWrite(a, 1, b)`. -/
def State.memWrite (s : State) (a : Nat) (b : Byte) : State :=
  s.setMem (s.mem.write s.font (a % Config.memSize) b)

/-! ### The program counter -/

/-- The advance of a cycle before dispatch, `PC <- a + 2` (R92). -/
def State.advance (s : State) : State := s.setPc (s.pc + 2)

/-- A taken skip: `PC <- PC + 2` (R110). -/
def State.skip (s : State) : State := s.setPc (s.pc + 2)

/-- Skip when the condition holds (R110). -/
def State.skipIf (s : State) (c : Bool) : State := if c then s.skip else s

/-! ### The call stack: no overflow or underflow check (R121) -/

/-- `push(a)` (R111; D10, log entry 12). -/
def State.push (s : State) (a : Addr) : State := (s.setStack s.sp a).setSp (s.sp + 1)

/-- The state after `pop()`; the entry stays in STACK (R112; D10, log entry 12). -/
def State.pop (s : State) : State := s.setSp (s.sp - 1)

/-- The entry `pop()` returns, read after the stack pointer has moved (R112). -/
def State.popped (s : State) : Addr := s.getStack (s.sp - 1)

/-! ### The frame buffer (R180 to R182) -/

/-- The pixel at column x and row y, at wrapped coordinates. -/
def Grid.pixel (g : Grid) (x y : Nat) : Bool :=
  (g[y % Config.dispH]'(Nat.mod_lt _ (by decide)))[x % Config.dispW]'(Nat.mod_lt _ (by decide))

/-- The grid after `clear()` (R181). -/
def Grid.cleared : Grid := .replicate _ (.replicate _ false)

/-- The grid after `flipPixel(x, y)` (R182): the one pixel at wrapped coordinates toggled. What
flipPixel reports is the pixel before, `g.pixel x y`. -/
def Grid.flip (g : Grid) (x y : Nat) : Grid :=
  g.set (y % Config.dispH)
    ((g[y % Config.dispH]'(Nat.mod_lt _ (by decide))).set (x % Config.dispW) (!g.pixel x y)
      (Nat.mod_lt _ (by decide)))
    (Nat.mod_lt _ (by decide))

/-! ### The input state (R200) -/

/-- `isPressed(id)`: set membership, with no masking of the id (D18, log entry 13). -/
def State.isPressed (s : State) (id : Nat) : Bool := (s.keys[id]?).getD false

/-- `anyPressed()`: the lowest held key, if any. -/
def State.anyPressed (s : State) : Option Nat := (List.range Config.nKeys).find? s.isPressed

/-! ### The random source (R12) -/

/-- The value of the next `draw RND()`: the next byte the host has supplied, else a free value (log entry
4). -/
def State.drawn (s : State) : Byte :=
  match s.rnd with
  | [] => Config.rnd s.draws
  | b :: _ => b

/-- The state after one draw. -/
def State.afterDraw (s : State) : State := { s with rnd := s.rnd.tail, draws := s.draws + 1 }

/-! ### Handlers and the flag register (R90, R96, R97) -/

/-- Run a handler with VF saved before it and restored after it (R96). -/
def State.keepingVF (s : State) (handler : State → State) : State :=
  (handler s).setV 0xF (s.getV 0xF)

/-- The end of a cycle whose handler is not flag-defining: VF is restored (R90, R96). -/
def runHandler (handler : State → State) (s : State) : Result := .next (s.keepingVF handler)

/-- The end of a cycle whose handler is flag-defining: VF keeps what the handler wrote (R90, R98). -/
def runFlagHandler (handler : State → State) (s : State) : Result := .next (handler s)

/-! ### The exception (R221) -/

/-- `raise UndefinedOpcode(w)`, from the state after the cycle's advance: RUN false, FATAL(w) emitted,
all else kept (R221). It saves no state and transfers control nowhere (R224). -/
def State.raiseUndefinedOpcode (s : State) (w : Word) : State := (s.setRun false).emit (.fatal w)

/-- The codes of the error kinds, for the model's use (R220; D3). -/
def ErrorKind.code : ErrorKind → Nat
  | .notPlaying => 0
  | .undefinedOpcode => 1

end Sys2Proof.Machine
end

