-- ==== Sys2Proof/Machine/Flags.lean ====
section
/-! DEFINITION. The flag computations (spec/42_register_alu.md rule R130) and the list of the handlers
that define VF (spec/40_cycle_dispatch.md rule R97). A flag is always 0x00 or 0x01. -/

namespace Sys2Proof.Machine

/-- A flag result as the byte VF holds (R130). -/
def flagByte (b : Bool) : Byte := if b then 1 else 0

/-- The carry of 8XY4: the true sum exceeds 255 (R137). -/
def carryOut (a b : Byte) : Bool := decide (255 < a.toNat + b.toNat)

/-- The "no borrow" flag of 8XY5 and 8XY7: the minuend strictly greater than the subtrahend (R138, R140). -/
def noBorrow (minuend subtrahend : Byte) : Bool := decide (subtrahend.toNat < minuend.toNat)

/-- The bit 8XY6 shifts out, bit 0 (R139). -/
def shiftedOutRight (a : Byte) : Bool := a.getLsbD 0

/-- The bit 8XYE shifts out, bit 7 (R141). -/
def shiftedOutLeft (a : Byte) : Bool := a.getLsbD 7

/-- Write a flag to VF, the last write of a flag-defining handler (R98). -/
def State.setFlag (s : State) (b : Bool) : State := s.setV 0xF (flagByte b)

/-- The flag-defining handlers are exactly 8XY4, 8XY5, 8XY6, 8XY7, 8XYE and DXYN (R97). -/
def flagDefining : Instr → Bool
  | .op00E0 => false
  | .op00EE => false
  | .op1NNN _ => false
  | .op2NNN _ => false
  | .op3XNN _ _ => false
  | .op4XNN _ _ => false
  | .op5XY0 _ _ _ => false
  | .op6XNN _ _ => false
  | .op7XNN _ _ => false
  | .op8XY0 _ _ => false
  | .op8XY1 _ _ => false
  | .op8XY2 _ _ => false
  | .op8XY3 _ _ => false
  | .op8XY4 _ _ => true
  | .op8XY5 _ _ => true
  | .op8XY6 _ _ => true
  | .op8XY7 _ _ => true
  | .op8XYE _ _ => true
  | .op9XY0 _ _ _ => false
  | .opANNN _ => false
  | .opBNNN _ => false
  | .opCXNN _ _ => false
  | .opDXYN _ _ _ => true
  | .opEX9E _ => false
  | .opEXA1 _ => false
  | .opFX07 _ => false
  | .opFX0A _ => false
  | .opFX15 _ => false
  | .opFX18 _ => false
  | .opFX1E _ => false
  | .opFX29 _ => false
  | .opFX33 _ => false
  | .opFX55 _ => false
  | .opFX65 _ => false

end Sys2Proof.Machine
end

