-- ==== Sys2Proof/Machine/Operands.lean ====
section
/-! DEFINITION. The operand forms: the one addressing mode of the memory instructions (spec/43_memory_index.md
rule R163) and the block transfers over it, and the zero-extended immediates (R72). Registers are read
with `State.getV` (R72: X and Y select registers directly). -/

namespace Sys2Proof.Machine

/-- `EA(k) = (I + k) mod 4096` (R163). -/
def State.ea (s : State) (k : Nat) : Nat := (s.i.toNat + k) % Config.memSize

/-- Store bytes at EA(k), EA(k + 1), and so on, in ascending order (R62). -/
def State.storeFrom (s : State) (k : Nat) : List Byte → State
  | [] => s
  | b :: bytes => State.storeFrom (s.memWrite (s.ea k) b) (k + 1) bytes

/-- The registers V0 to Vx, in index order (R22). -/
def State.regsUpTo (s : State) (x : Nibble) : List Byte := s.v.toList.take (x.toNat + 1)

/-- V0 to Vx loaded from EA(0) to EA(x), the other registers kept (R168). -/
def State.loadUpTo (s : State) (x : Nibble) : State :=
  { s with v := s.v.mapIdx fun k b => if k ≤ x.toNat then s.memRead (s.ea k) else b }

/-- NNN as the 16-bit value of I (R160: `zext_16`). -/
def zext16 (nnn : Addr) : Word := nnn.setWidth 16

/-- A byte as a 12-bit address offset (R120). -/
def zext12 (b : Byte) : Addr := b.setWidth 12

end Sys2Proof.Machine
end

