-- ==== Sys2Proof/Machine/Alu.lean ====
section
/-! DEFINITION. The register and ALU instructions (spec/42_register_alu.md). Every operand is read from
the state the handler starts in (R99), results are 8 bits modulo 256 (R130), and a flag is the last
write (R98). -/

namespace Sys2Proof.Machine

/-- 6XNN, load immediate: `V[X] <- NN` (R131). -/
def exec6XNN (x : Nibble) (nn : Byte) (s : State) : Result := runHandler (fun s => s.setV x nn) s

/-- 7XNN, add immediate, no carry: `V[X] <- (vx + NN) mod 256` (R132). -/
def exec7XNN (x : Nibble) (nn : Byte) (s : State) : Result :=
  runHandler (fun s => s.setV x (s.getV x + nn)) s

/-- 8XY0, copy register: `V[X] <- vy` (R133). -/
def exec8XY0 (x y : Nibble) (s : State) : Result := runHandler (fun s => s.setV x (s.getV y)) s

/-- 8XY1, bitwise OR (R134). -/
def exec8XY1 (x y : Nibble) (s : State) : Result :=
  runHandler (fun s => s.setV x (s.getV x ||| s.getV y)) s

/-- 8XY2, bitwise AND (R135). -/
def exec8XY2 (x y : Nibble) (s : State) : Result :=
  runHandler (fun s => s.setV x (s.getV x &&& s.getV y)) s

/-- 8XY3, bitwise XOR (R136). -/
def exec8XY3 (x y : Nibble) (s : State) : Result :=
  runHandler (fun s => s.setV x (s.getV x ^^^ s.getV y)) s

/-- 8XY4, add with carry out (R137). -/
def exec8XY4 (x y : Nibble) (s : State) : Result :=
  runFlagHandler (fun s =>
    (s.setV x (BitVec.ofNat 8 ((s.getV x).toNat + (s.getV y).toNat))).setFlag
      (carryOut (s.getV x) (s.getV y))) s

/-- 8XY5, subtract Vy from Vx; the flag is a strict comparison (R138). -/
def exec8XY5 (x y : Nibble) (s : State) : Result :=
  runFlagHandler (fun s =>
    (s.setV x (s.getV x - s.getV y)).setFlag (noBorrow (s.getV x) (s.getV y))) s

/-- 8XY6, shift Vx right by one; Vy is ignored (R139). -/
def exec8XY6 (x : Nibble) (s : State) : Result :=
  runFlagHandler (fun s => (s.setV x (s.getV x >>> 1)).setFlag (shiftedOutRight (s.getV x))) s

/-- 8XY7, subtract Vx from Vy; the flag is a strict comparison (R140). -/
def exec8XY7 (x y : Nibble) (s : State) : Result :=
  runFlagHandler (fun s =>
    (s.setV x (s.getV y - s.getV x)).setFlag (noBorrow (s.getV y) (s.getV x))) s

/-- 8XYE, shift Vx left by one; Vy is ignored (R141). -/
def exec8XYE (x : Nibble) (s : State) : Result :=
  runFlagHandler (fun s => (s.setV x (s.getV x <<< 1)).setFlag (shiftedOutLeft (s.getV x))) s

/-- CXNN, random byte masked: `r <- draw RND() ; V[X] <- r & NN`, exactly one draw whatever X and NN are
(R142; D14, log entry 4). -/
def execCXNN (x : Nibble) (nn : Byte) (s : State) : Result :=
  runHandler (fun s => s.afterDraw.setV x (s.drawn &&& nn)) s

end Sys2Proof.Machine
end

