-- ==== Sys2Proof/Machine/Control.lean ====
section
/-! DEFINITION. The control flow instructions (spec/41_control_flow.md). A meaning runs after the cycle's
advance, so `s.pc` in it is `a + 2` (R25, R101); none defines a flag. -/

namespace Sys2Proof.Machine

/-- 00EE, return from subroutine: `PC <- pop()` (R113). -/
def exec00EE (s : State) : Result := runHandler (fun s => s.pop.setPc s.popped) s

/-- 1NNN, jump: `PC <- NNN` (R114). -/
def exec1NNN (nnn : Addr) (s : State) : Result := runHandler (fun s => s.setPc nnn) s

/-- 2NNN, call: `push(PC) ; PC <- NNN` (R115). -/
def exec2NNN (nnn : Addr) (s : State) : Result := runHandler (fun s => (s.push s.pc).setPc nnn) s

/-- 3XNN, skip if Vx = NN (R116). -/
def exec3XNN (x : Nibble) (nn : Byte) (s : State) : Result :=
  runHandler (fun s => s.skipIf (s.getV x == nn)) s

/-- 4XNN, skip if Vx ≠ NN (R117). -/
def exec4XNN (x : Nibble) (nn : Byte) (s : State) : Result :=
  runHandler (fun s => s.skipIf (s.getV x != nn)) s

/-- 5XY0, skip if Vx = Vy, whatever the low nibble (R118, R76). -/
def exec5XY0 (x y : Nibble) (s : State) : Result :=
  runHandler (fun s => s.skipIf (s.getV x == s.getV y)) s

/-- 9XY0, skip if Vx ≠ Vy, whatever the low nibble (R119, R76). -/
def exec9XY0 (x y : Nibble) (s : State) : Result :=
  runHandler (fun s => s.skipIf (s.getV x != s.getV y)) s

/-- BNNN, jump with offset V0: `PC <- NNN + V0`, modulo 4096 (R120). -/
def execBNNN (nnn : Addr) (s : State) : Result :=
  runHandler (fun s => s.setPc (nnn + zext12 (s.getV 0x0))) s

end Sys2Proof.Machine
end

