-- ==== Sys2Proof/Machine/Display.lean ====
section
/-! DEFINITION. The drawing instructions and the GET_FRAME query (spec/44_display.md). -/

namespace Sys2Proof.Machine

/-- One column of DXYN's inner loop: when bit `7 - c` of the row byte is set, flip the pixel and let a
collision set `hit` for good (R186). The pair is the grid and `hit`. -/
def drawColumn (x y : Nat) (b : Byte) (acc : Grid × Bool) (c : Nat) : Grid × Bool :=
  if b.getLsbD (7 - c) then (acc.1.flip (x + c) y, acc.2 || acc.1.pixel (x + c) y) else acc

/-- One row of DXYN: its 8 columns, most significant bit first (R186). -/
def drawRow (x y : Nat) (b : Byte) (acc : Grid × Bool) : Grid × Bool :=
  (List.range 8).foldl (drawColumn x y b) acc

/-- The loop of DXYN: the rows 0 to N - 1, row `row` from the byte at EA(row), drawn on FB from `hit`
false (R186). -/
def State.draw (s : State) (x y n : Nat) : Grid × Bool :=
  (List.range n).foldl (fun acc row => drawRow x (y + row) (s.memRead (s.ea row)) acc) (s.fb, false)

/-- 00E0, clear the screen (R183). -/
def exec00E0 (s : State) : Result := runHandler (fun s => s.setFb Grid.cleared) s

/-- DXYN, draw an N-row sprite at (Vx, Vy); VF = 1 if any flip collided, else 0 (R186, R187). -/
def execDXYN (x y n : Nibble) (s : State) : Result :=
  runFlagHandler (fun s =>
    let drawn := s.draw (s.getV x).toNat (s.getV y).toNat n.toNat
    (s.setFb drawn.1).setFlag drawn.2) s

/-- What GET_FRAME answers: a copy of the grid as it stands, whatever RUN is (R184). -/
def State.getFrame (s : State) : Grid := s.fb

end Sys2Proof.Machine
end

