-- ==== Sys2Proof/Machine/Index.lean ====
section
/-! DEFINITION. The address register and memory instructions (spec/43_memory_index.md). None defines a
flag, and FX33, FX55 and FX65 leave I unchanged (R165; D19, log entry 14). -/

namespace Sys2Proof.Machine

/-- ANNN, load address register: `I <- zext_16(NNN)` (R160). -/
def execANNN (nnn : Addr) (s : State) : Result := runHandler (fun s => s.setI (zext16 nnn)) s

/-- FX1E, add register to I: `I <- (I + vx) mod 4096` (R161). -/
def execFX1E (x : Nibble) (s : State) : Result :=
  runHandler (fun s => s.setI (BitVec.ofNat 16 ((s.i.toNat + (s.getV x).toNat) % Config.memSize))) s

/-- FX29, point I at a font glyph: `I <- vx * 5`, with Vx not reduced to its low nibble (R162). -/
def execFX29 (x : Nibble) (s : State) : Result :=
  runHandler (fun s => s.setI (BitVec.ofNat 16 ((s.getV x).toNat * Config.glyphBytes))) s

/-- The decimal digits of a byte: hundreds, tens, units (R164). -/
def decimalDigits (b : Byte) : List Byte :=
  [BitVec.ofNat 8 (b.toNat / 100), BitVec.ofNat 8 (b.toNat / 10 % 10), BitVec.ofNat 8 (b.toNat % 10)]

/-- FX33, store the decimal digits of Vx at EA(0), EA(1) and EA(2) (R164). -/
def execFX33 (x : Nibble) (s : State) : Result :=
  runHandler (fun s => s.storeFrom 0 (decimalDigits (s.getV x))) s

/-- FX55, store V0 to Vx at EA(0) to EA(x) (R166). -/
def execFX55 (x : Nibble) (s : State) : Result := runHandler (fun s => s.storeFrom 0 (s.regsUpTo x)) s

/-- FX65, load V0 to Vx from EA(0) to EA(x); a byte loaded into VF is undone (R168, R96). -/
def execFX65 (x : Nibble) (s : State) : Result := runHandler (fun s => s.loadUpTo x) s

end Sys2Proof.Machine
end

