-- ==== Sys2Proof/Machine/Input.lean ====
section
/-! DEFINITION. The input and timer instructions (spec/45_input_timers.md). A handler reads KEYS from the
state it starts in, one snapshot (R35); none defines a flag. -/

namespace Sys2Proof.Machine

/-- EX9E, skip if key Vx is pressed; Vx is not masked (R202). -/
def execEX9E (x : Nibble) (s : State) : Result :=
  runHandler (fun s => s.skipIf (s.isPressed (s.getV x).toNat)) s

/-- EXA1, skip if key Vx is not pressed; Vx is not masked (R203). -/
def execEXA1 (x : Nibble) (s : State) : Result :=
  runHandler (fun s => s.skipIf (!s.isPressed (s.getV x).toNat)) s

/-- FX07, read delay timer: `V[X] <- DT` (R205). -/
def execFX07 (x : Nibble) (s : State) : Result := runHandler (fun s => s.setV x s.dt) s

/-- FX0A, wait for a key: with no key held, PC goes back to the FX0A itself; else `V[X]` gets the lowest
held key (R204). -/
def execFX0A (x : Nibble) (s : State) : Result :=
  runHandler (fun s =>
    match s.anyPressed with
    | none => s.setPc (s.pc - 2)
    | some k => s.setV x (BitVec.ofNat 8 k)) s

/-- FX15, set delay timer: `DT <- vx` (R206). -/
def execFX15 (x : Nibble) (s : State) : Result := runHandler (fun s => s.setDt (s.getV x)) s

/-- FX18, set sound timer: `ST <- vx`; it emits no TONE_START (R207). -/
def execFX18 (x : Nibble) (s : State) : Result := runHandler (fun s => s.setSt (s.getV x)) s

end Sys2Proof.Machine
end

