-- ==== Sys2Proof/Machine/Cycle.lean ====
section
/-! DEFINITION. The CYCLE command (spec/40_cycle_dispatch.md rule R90): fetch, advance, decode, dispatch. -/

namespace Sys2Proof.Machine

/-- The fetch: the bytes at PC and PC + 1, each address modulo 4096, high byte first (R91). -/
def State.fetch (s : State) : Word := wordOfBytes (s.memRead s.pc.toNat) (s.memRead (s.pc.toNat + 1))

/-- CYCLE: with RUN false nothing (R223); else one instruction (R90), or the fatal decode error on an
illegal word, after the advance (R92, R221). -/
def cycle (s : State) : Result :=
  if s.run then
    match decode s.fetch with
    | .ok i => exec i s.advance
    | .error _ => .next (s.advance.raiseUndefinedOpcode s.fetch)
  else .next s

/-- The one error a CYCLE or FRAME from this state meets, if any (R220, R227): a CYCLE is meant when
`isCycle`, and only a CYCLE decodes. -/
def State.error (s : State) (isCycle : Bool) : Option ErrorKind :=
  if s.run then
    match isCycle, decode s.fetch with
    | true, .error _ => some .undefinedOpcode
    | _, _ => none
  else some .notPlaying

end Sys2Proof.Machine
end

