-- ==== Sys2Proof/Machine/Commands.lean ====
section
/-! DEFINITION. The host's commands (spec/00_scope.md rule R10) beside CYCLE: LOAD
(spec/70_reset_and_hazards.md rule R252), KEY_DOWN and KEY_UP (spec/45_input_timers.md rule R201), FRAME
(spec/60_exceptions.md rule R235), GET_FRAME (R184), and the composite TICK (R15). -/

namespace Sys2Proof.Machine

/-- LOAD(bytes): every register, the stack, the timers, memory, the display and the input state
reinitialised, the image copied to 0x200, and RUN true (R252, R39). The model's own fields are not the
block's state and stay (R36). -/
def State.load (s : State) (bytes : List Byte) : State :=
  { s with
    v := .replicate _ 0
    i := 0
    pc := BitVec.ofNat 12 Config.progBase
    sp := 0
    stack := .replicate _ 0
    dt := 0
    st := 0
    mem := Memory.image s.font Config.progBase bytes
    fb := Grid.cleared
    keys := .replicate _ false
    run := true }

/-- `KEYS <- KEYS ∪ {id}` (R201). -/
def State.keyDown (s : State) (id : Nat) : State := s.setKeys (s.keys.setIfInBounds id true)

/-- `KEYS <- KEYS \ {id}` (R201). -/
def State.keyUp (s : State) (id : Nat) : State := s.setKeys (s.keys.setIfInBounds id false)

/-- The delay timer at a FRAME: down by 1 if above 0 (R235). -/
def State.countDt (s : State) : State := if s.dt = 0 then s else s.setDt (s.dt - 1)

/-- The sound timer at a FRAME: down by 1 if above 0, and TONE_START when that makes it exactly 1 (R235,
R236). -/
def State.countSt (s : State) : State :=
  if s.st = 0 then s
  else if s.st - 1 = 1 then (s.setSt (s.st - 1)).emit .toneStart
  else s.setSt (s.st - 1)

/-- FRAME: render, then count the timers down (R235); with RUN false nothing (R223). -/
def frame (s : State) : State :=
  if s.run then (s.emit (.render s.fb)).countDt.countSt else s

/-- What the host guarantees of a command (R14). -/
def Command.wellFormed : Command → Bool
  | .load bytes => decide (bytes.length ≤ Config.progMax)
  | .keyDown id => decide (id < Config.nKeys)
  | .keyUp id => decide (id < Config.nKeys)
  | .cycle => true
  | .frame => true
  | .getFrame => true

/-- One command, run to its end (R11). A command that breaks a host duty is refused (R14; D17). -/
def execCommand (c : Command) (s : State) : Result :=
  match c with
  | .load bytes =>
    if bytes.length ≤ Config.progMax then .next (s.load bytes) else .refused (.loadTooLong bytes.length)
  | .keyDown id => if id < Config.nKeys then .next (s.keyDown id) else .refused (.keyIdOutOfRange id)
  | .keyUp id => if id < Config.nKeys then .next (s.keyUp id) else .refused (.keyIdOutOfRange id)
  | .cycle => cycle s
  | .frame => .next (frame s)
  | .getFrame => .next s

/-- What a command answers to the host: GET_FRAME the grid, the others nothing (R10, R184). -/
def Command.answer (s : State) : Command → Option Grid
  | .load _ => none
  | .keyDown _ => none
  | .keyUp _ => none
  | .cycle => none
  | .frame => none
  | .getFrame => some s.getFrame

/-- Commands one after the other, stopping at the first refusal (R11). -/
def runCommands : List Command → State → Result
  | [], s => .next s
  | c :: cs, s =>
    match execCommand c s with
    | .next t => runCommands cs t
    | .fault r => .fault r
    | .refused r => .refused r

/-- The commands of one TICK: CYCLES_PER_FRAME CYCLEs, then one FRAME (R15). -/
def State.tickCommands (s : State) : List Command := List.replicate s.cyclesPerFrame .cycle ++ [.frame]

/-- TICK, the composite step of the block's own controller (R15; D16). -/
def tick (s : State) : Result := runCommands s.tickCommands s

/-- Place a word at the program counter, high byte first, with RUN true and no command waiting, so
that the next step runs it. It stands for the host's LOAD (log entry 19). -/
def State.placeWord (s : State) (w : Word) : State :=
  (((s.memWrite s.pc.toNat (w.extractLsb' 8 8)).memWrite (s.pc.toNat + 1) (w.extractLsb' 0 8)).setRun
    true).setHost []

/-- One step: the host's next command, or a CYCLE when the host has said nothing (log entry 1). -/
def nextCommand (s : State) : Result :=
  match s.host with
  | [] => cycle s
  | c :: cs => execCommand c (s.setHost cs)

end Sys2Proof.Machine
end

