-- ==== Sys2Proof/Machine/Step.lean ====
section
/-! DEFINITION. The step of the machine, and a word placed where the step fetches. -/

namespace Sys2Proof.Machine

/-- One step: the host's next command, or a CYCLE when none waits (spec/00_scope.md rules R10, R11). -/
def step (s : State) : Host.Outcome State Fault Refusal := nextCommand s

/-- `s` with the instruction of bits `w` (numbered as spec/opcode_table.json numbers them) stored where
`step` fetches its next one, and the machine made ready to fetch it: RUN is true only after a LOAD
(R31), and no command waits. -/
def State.withFetchWord (s : State) (nbits w : Nat) : State :=
  s.placeWord (BitVec.ofNat 16 (w % 2 ^ nbits))

end Sys2Proof.Machine
end

