-- ==== Sys2Proof/Safety.lean ====
section
/-! DEFINITION. The terms claims are stated in: the invariant of the state, when a step is a CYCLE, what
leaves memory alone, where a sprite has a set bit, and a run that never stops. -/

namespace Sys2Proof.Machine

/-- The invariant of the state: memory keeps its canonical form (log entry 21), and bits 15 to 12 of I
are 0 (spec/10_state.md rule R23). -/
def State.Inv (s : State) : Prop := s.mem.wf s.font = true ∧ s.i.toNat < Config.memSize

/-- The host keeps its duties in every command it will give (spec/00_scope.md rule R14). -/
def State.HostKeepsDuties (s : State) : Prop := ∀ c ∈ s.host, c.wellFormed = true

/-- A safe run of k steps: no step faults or is refused. -/
def SafeFor (k : Nat) (s : State) : Prop := ∃ t, Host.Core.run Sys2Proof.core k s = .next t

/-- The next step from `s` is a CYCLE, and `cs` are the host's commands after it: no command waits, or
the next one is CYCLE (R10; log entry 1). -/
def State.GivesCycle (s : State) (cs : List Command) : Prop :=
  (s.host = [] ∧ cs = []) ∨ s.host = .cycle :: cs

/-- Every byte of memory reads in `t` as in `s`. -/
def KeepsMemory (s t : State) : Prop := ∀ a, t.memRead a = s.memRead a

/-- The sprite of `n` rows at I, drawn at (x, y), has a set bit that lands on the pixel at column `px` and
row `py` (spec/44_display.md rules R182 and R186: bit `7 - c` of row byte `row` lands on the wrapped
coordinates of (x + c, y + row)). -/
def State.SpriteCovers (s : State) (x y n px py : Nat) : Prop :=
  ∃ row < n, ∃ c < 8, (s.memRead (s.ea row)).getLsbD (7 - c) = true ∧
    (x + c) % Config.dispW = px ∧ (y + row) % Config.dispH = py

end Sys2Proof.Machine
end

