-- ==== Sys2Proof/Certificates/Slice0/Obligations.lean ====
section
/-! DEFINITION. The statements for the provers. Each says what an instruction, a command or the machine
does, over every state; the per-instruction ones conclude that `exec` answers a next state and name all
that may differ in it (`t = { s with … }` says that every other field is unchanged), and say of memory,
byte by byte, what it reads as. `exec` runs after the cycle's advance, so `s.pc` in them is `a + 2`. -/

open Sys2Proof Sys2Proof.Machine

/-! ### Encoding (spec/30_encoding.md) -/

/-- Words written out from R77 and the vectors of 95_test_vectors.md decode to their instructions, and
one illegal word of each class of R79 is refused by name. -/
def Obligations.WordsDecodeToTheirInstructions : Prop :=
  decode 0x00E0 = .ok .op00E0 ∧ decode 0x00EE = .ok .op00EE ∧ decode 0x1ABC = .ok (.op1NNN 0xABC) ∧
  decode 0x6A05 = .ok (.op6XNN 0xA 0x05) ∧ decode 0x8124 = .ok (.op8XY4 0x1 0x2) ∧
  decode 0x912F = .ok (.op9XY0 0x1 0x2 0xF) ∧ decode 0xA2F0 = .ok (.opANNN 0x2F0) ∧
  decode 0xC30F = .ok (.opCXNN 0x3 0x0F) ∧ decode 0xD015 = .ok (.opDXYN 0x0 0x1 0x5) ∧
  decode 0xE29E = .ok (.opEX9E 0x2) ∧ decode 0xF30A = .ok (.opFX0A 0x3) ∧
  decode 0xF265 = .ok (.opFX65 0x2) ∧
  decode 0x0123 = .error (.undefinedOpcode 0x0123) ∧ decode 0x8008 = .error (.undefinedOpcode 0x8008) ∧
  decode 0xE09F = .error (.undefinedOpcode 0xE09F) ∧ decode 0xFFFF = .error (.undefinedOpcode 0xFFFF)

/-- Encoding an instruction and decoding its word, or its two bytes with any bytes after them, or its
word as the opcode table numbers it, gives the instruction back, with every operand and every ignored
bit. That an instruction has its word's ignored bits at all is the model's choice (log entry 20), and
the order of the two bytes is the spec's decision D5 (log entry 8). -/
def Obligations.DecodeInvertsEncode : Prop :=
  ∀ (i : Instr) (rest : List Byte),
    decode (encode i) = .ok i ∧
    decodeBytes (bytesOfWord (encode i) ++ rest) = .ok (i, rest) ∧
    decodeTableWord 16 (encode i).toNat = some i

/-- A legal word is the encoding of the instruction it decodes to, so that no two words have one
instruction. That holds because the model keeps the ignored nibbles of 5XYn, 9XYn, 8XY6 and 8XYE as
operands, which is the model's choice (log entry 20): no meaning reads them. -/
def Obligations.EncodeInvertsDecode : Prop :=
  ∀ (w : Word) (i : Instr), decode w = .ok i → encode i = w

/-- R79, R81: decode refuses exactly the words of the four illegal sets, with the raw word as the
verdict. -/
def Obligations.DecodeRefusesExactlyTheIllegalWords : Prop :=
  ∀ w : Word, decode w = .error (.undefinedOpcode w) ↔ wellFormedWord w = false

/-- R79: 13,902 words are illegal and 51,634 are legal. -/
def Obligations.LegalAndIllegalWordCounts : Prop :=
  (List.range 65536).countP (fun n => wellFormedWord (BitVec.ofNat 16 n)) = 51634 ∧
  (List.range 65536).countP (fun n => !wellFormedWord (BitVec.ofNat 16 n)) = 13902

/-- R77: a word selects the row whose `(w & mask) = match`, no word matches two rows, and a word that
matches no row is illegal. -/
def Obligations.OpcodeMapSelectsTheInstruction : Prop :=
  ∀ w : Word,
    (∀ i, decode w = .ok i → i.row ∈ opcodeMap ∧ i.row.selectedBy w = true) ∧
    (∀ r ∈ opcodeMap, r.selectedBy w = true → ∃ i, decode w = .ok i ∧ i.row = r) ∧
    (∀ r ∈ opcodeMap, ∀ r' ∈ opcodeMap, r.selectedBy w = true → r'.selectedBy w = true → r = r') ∧
    ((∀ r ∈ opcodeMap, r.selectedBy w = false) → decode w = .error (.undefinedOpcode w))

/-- R71: the six fields of a word, as numbers, and how they overlap. -/
def Obligations.FieldsOfAWord : Prop :=
  ∀ w : Word,
    (Word.opClass w).toNat = w.toNat / 4096 ∧
    (Word.fieldX w).toNat = w.toNat / 256 % 16 ∧
    (Word.fieldY w).toNat = w.toNat / 16 % 16 ∧
    (Word.fieldN w).toNat = w.toNat % 16 ∧
    (Word.fieldNN w).toNat = w.toNat % 256 ∧
    (Word.fieldNNN w).toNat = w.toNat % 4096 ∧
    Word.fieldNN w = Word.fieldY w ++ Word.fieldN w ∧
    Word.fieldNNN w = Word.fieldX w ++ (Word.fieldY w ++ Word.fieldN w)

/-- R76: the words 0x5XYn and 0x9XYn are legal for every n and run exactly as 5XY0 and 9XY0. -/
def Obligations.LowNibbleOfClasses5And9IsIgnored : Prop :=
  ∀ (x y n : Nibble) (s : State),
    (∃ i, decode (wordXYN 0x5 x y n) = .ok i ∧ exec i s = exec (.op5XY0 x y 0) s) ∧
    (∃ i, decode (wordXYN 0x9 x y n) = .ok i ∧ exec i s = exec (.op9XY0 x y 0) s)

/-! ### The cycle (spec/40_cycle_dispatch.md) -/

/-- R91: the fetch reads the bytes at PC and PC + 1, each address modulo 4096. That the byte at PC is
the high one is the spec's decision D5 (log entry 8). -/
def Obligations.FetchReadsTwoBytesAtPc : Prop :=
  ∀ s : State,
    s.fetch.toNat =
      (s.memRead s.pc.toNat).toNat * 256 + (s.memRead ((s.pc.toNat + 1) % 4096)).toNat

/-- R90, R92: when a CYCLE comes, RUN is true and the word at PC is legal, the step is the instruction's
`exec` from the state with PC advanced by 2 (and the command taken from the host's list). That an empty
list means a CYCLE is the model's choice (log entry 1); that `exec` starts after the advance follows
R101 (log entry 28); PC wraps at 12 bits by the spec's decision D4 (log entry 7). -/
def Obligations.StepRunsTheDecodedInstruction : Prop :=
  ∀ (s : State) (cs : List Command) (i : Instr),
    s.GivesCycle cs → s.run = true → decode s.fetch = .ok i →
      step s = exec i { s with pc := s.pc + 2, host := cs }

/-- A word placed with `withFetchWord` is what the next step fetches: RUN is true, no command waits, and
no other state changes but the two bytes at PC and PC + 1. It stands for the host's LOAD, which is the
model's choice (log entry 19); the order of the two bytes is the spec's decision D5 (log entry 8). -/
def Obligations.PlacedWordIsFetched : Prop :=
  ∀ (s : State) (w : Nat), w < 65536 →
    (s.withFetchWord 16 w).fetch = BitVec.ofNat 16 w ∧
    s.withFetchWord 16 w = { s with mem := (s.withFetchWord 16 w).mem, run := true, host := [] } ∧
    ∀ a, a % 4096 ≠ s.pc.toNat → a % 4096 ≠ (s.pc.toNat + 1) % 4096 →
      (s.withFetchWord 16 w).memRead a = s.memRead a

/-- R221, R100: a CYCLE on an illegal word makes RUN false and emits FATAL with the raw word; beyond the
advance of PC nothing else changes. That PC stays advanced is the spec's derivation in R221 (log entry
18). -/
def Obligations.IllegalWordHaltsTheBlock : Prop :=
  ∀ (s : State) (cs : List Command) (e : DecodeError),
    s.GivesCycle cs → s.run = true → decode s.fetch = .error e →
      step s = .next { s with
        pc := s.pc + 2
        run := false
        events := s.events ++ [.fatal s.fetch]
        host := cs }

/-- R223: with RUN false a CYCLE or a FRAME changes nothing, and any number of CYCLEs change nothing.
That it is so after a fatal error too is the spec's decision D15 (log entry 15). -/
def Obligations.NothingRunsWhileRunIsFalse : Prop :=
  ∀ s : State, s.run = false →
    (∀ cs, s.GivesCycle cs ∨ s.host = .frame :: cs → step s = .next { s with host := cs }) ∧
    (s.host = [] → ∀ k, Host.Core.run Sys2Proof.core k s = .next s)

/-- R222: no legal instruction raises an exception: each completes from every state, with RUN as it was
and no event emitted. -/
def Obligations.EveryInstructionCompletes : Prop :=
  ∀ (i : Instr) (s : State), ∃ t, exec i s = .next t ∧ t.run = s.run ∧ t.events = s.events

/-- R96, R97: an instruction that is not one of 8XY4, 8XY5, 8XY6, 8XY7, 8XYE and DXYN leaves VF as it
was; one of those six leaves 0x00 or 0x01 in it (R130 for the five of the ALU, R186 for DXYN). That
8XYE's truth value is 0 or 1 is the spec's derivation in R141 (log entry 29). -/
def Obligations.OnlyFlagDefiningInstructionsChangeVF : Prop :=
  ∀ (i : Instr) (s t : State), exec i s = .next t →
    (((∃ x y, i = .op8XY4 x y) ∨ (∃ x y, i = .op8XY5 x y) ∨ (∃ x y, i = .op8XY6 x y) ∨
        (∃ x y, i = .op8XY7 x y) ∨ (∃ x y, i = .op8XYE x y) ∨ (∃ x y n, i = .opDXYN x y n)) ∧
      (t.getV 0xF = 0 ∨ t.getV 0xF = 1)) ∨
    (flagDefining i = false ∧ t.getV 0xF = s.getV 0xF)

/-- The access matrix R37, as far as instructions go: which of them may change V0 to VE, VF, I, PC
(beyond the cycle's advance: log entry 28), SP and STACK, DT, ST, memory and FB, and that none changes
KEYS or RUN. Of the model's own fields, which R37 does not know: the random source changes by CXNN alone
(log entry 4), and no instruction changes the events (log entry 2), the host's commands (log entry 1),
FONT (log entry 3) or CYCLES_PER_FRAME (log entry 16). -/
def Obligations.WhoWritesWhichState : Prop :=
  ∀ (i : Instr) (s t : State), exec i s = .next t →
    ((∃ y, y ≠ 0xF ∧ t.getV y ≠ s.getV y) →
      (∃ x nn, i = .op6XNN x nn) ∨ (∃ x nn, i = .op7XNN x nn) ∨ (∃ x y, i = .op8XY0 x y) ∨
      (∃ x y, i = .op8XY1 x y) ∨ (∃ x y, i = .op8XY2 x y) ∨ (∃ x y, i = .op8XY3 x y) ∨
      (∃ x y, i = .op8XY4 x y) ∨ (∃ x y, i = .op8XY5 x y) ∨ (∃ x y, i = .op8XY6 x y) ∨
      (∃ x y, i = .op8XY7 x y) ∨ (∃ x y, i = .op8XYE x y) ∨ (∃ x nn, i = .opCXNN x nn) ∨
      (∃ x, i = .opFX07 x) ∨ (∃ x, i = .opFX0A x) ∨ (∃ x, i = .opFX65 x)) ∧
    (t.getV 0xF ≠ s.getV 0xF →
      (∃ x y, i = .op8XY4 x y) ∨ (∃ x y, i = .op8XY5 x y) ∨ (∃ x y, i = .op8XY6 x y) ∨
      (∃ x y, i = .op8XY7 x y) ∨ (∃ x y, i = .op8XYE x y) ∨ (∃ x y n, i = .opDXYN x y n)) ∧
    (t.pc ≠ s.pc →
      i = .op00EE ∨ (∃ nnn, i = .op1NNN nnn) ∨ (∃ nnn, i = .op2NNN nnn) ∨ (∃ nnn, i = .opBNNN nnn) ∨
      (∃ x nn, i = .op3XNN x nn) ∨ (∃ x nn, i = .op4XNN x nn) ∨ (∃ x y n, i = .op5XY0 x y n) ∨
      (∃ x y n, i = .op9XY0 x y n) ∨ (∃ x, i = .opEX9E x) ∨ (∃ x, i = .opEXA1 x) ∨
      (∃ x, i = .opFX0A x)) ∧
    (t.i ≠ s.i → (∃ nnn, i = .opANNN nnn) ∨ (∃ x, i = .opFX1E x) ∨ (∃ x, i = .opFX29 x)) ∧
    (t.sp ≠ s.sp ∨ t.stack ≠ s.stack → (∃ nnn, i = .op2NNN nnn) ∨ i = .op00EE) ∧
    (t.dt ≠ s.dt → ∃ x, i = .opFX15 x) ∧
    (t.st ≠ s.st → ∃ x, i = .opFX18 x) ∧
    ((∃ a, t.memRead a ≠ s.memRead a) → (∃ x, i = .opFX33 x) ∨ (∃ x, i = .opFX55 x)) ∧
    (t.fb ≠ s.fb → i = .op00E0 ∨ ∃ x y n, i = .opDXYN x y n) ∧
    (t.draws ≠ s.draws ∨ t.rnd ≠ s.rnd → ∃ x nn, i = .opCXNN x nn) ∧
    t.keys = s.keys ∧ t.run = s.run ∧ t.events = s.events ∧ t.host = s.host ∧ t.font = s.font ∧
    t.cyclesPerFrame = s.cyclesPerFrame

/-- R27: no instruction reads ST. Two runs of an instruction that differ in ST alone end alike but for
ST. -/
def Obligations.NoInstructionReadsTheSoundTimer : Prop :=
  ∀ (i : Instr) (s t : State) (b : Byte), exec i s = .next t →
    ∃ u, exec i { s with st := b } = .next u ∧ { u with st := 0 } = { t with st := 0 }

/-! ### Control flow (spec/41_control_flow.md) -/

/-- R114: a jump changes PC to NNN and nothing else. -/
def Obligations.JumpSetsPc : Prop :=
  ∀ (s : State) (nnn : Addr),
    ∃ t, exec (.op1NNN nnn) s = .next t ∧ t = { s with pc := nnn } ∧ KeepsMemory s t

/-- R120: BNNN jumps to NNN + V0 and changes nothing else. The reduction modulo 4096 is the spec's
decision D4 (log entry 7). -/
def Obligations.JumpWithOffsetAddsV0 : Prop :=
  ∀ (s : State) (nnn : Addr),
    ∃ t, exec (.opBNNN nnn) s = .next t ∧
      t = { s with pc := BitVec.ofNat 12 ((nnn.toNat + (s.getV 0).toNat) % 4096) } ∧ KeepsMemory s t

/-- R115, R111: a call stores the address after it at STACK[SP], moves SP up modulo 16 and jumps. The
order of store and move is the spec's decision D10 (log entry 12). -/
def Obligations.CallPushesTheReturnAddress : Prop :=
  ∀ (s : State) (nnn : Addr),
    ∃ t, exec (.op2NNN nnn) s = .next t ∧
      t = { s with pc := nnn, sp := BitVec.ofNat 4 ((s.sp.toNat + 1) % 16), stack := t.stack } ∧
      (∀ k, t.getStack k = if k = s.sp then s.pc else s.getStack k) ∧ KeepsMemory s t

/-- R113, R112, R121: a return moves SP down modulo 16 and takes PC from the entry there, which stays;
at SP = 0 that is STACK[15]. The order is the spec's decision D10 (log entry 12). -/
def Obligations.ReturnPopsIntoPc : Prop :=
  ∀ s : State,
    ∃ t, exec .op00EE s = .next t ∧
      t = { s with
        pc := s.getStack (BitVec.ofNat 4 ((s.sp.toNat + 15) % 16))
        sp := BitVec.ofNat 4 ((s.sp.toNat + 15) % 16) } ∧
      KeepsMemory s t

/-- R113, R115: a return from a state with the stack as a call left it comes back to the address after
the call, with SP as before it, at every stack depth. -/
def Obligations.ReturnComesBackToTheCaller : Prop :=
  ∀ (s t u : State) (nnn : Addr), exec (.op2NNN nnn) s = .next t → u.sp = t.sp → u.stack = t.stack →
    ∃ r, exec .op00EE u = .next r ∧ r.pc = s.pc ∧ r.sp = s.sp

/-- R110, R116 to R119: the four register skips add 2 to PC when their comparison holds, and change
nothing else. -/
def Obligations.RegisterSkips : Prop :=
  ∀ (s : State) (x y n : Nibble) (nn : Byte),
    (∃ t, exec (.op3XNN x nn) s = .next t ∧
      t = { s with pc := if s.getV x = nn then s.pc + 2 else s.pc } ∧ KeepsMemory s t) ∧
    (∃ t, exec (.op4XNN x nn) s = .next t ∧
      t = { s with pc := if s.getV x = nn then s.pc else s.pc + 2 } ∧ KeepsMemory s t) ∧
    (∃ t, exec (.op5XY0 x y n) s = .next t ∧
      t = { s with pc := if s.getV x = s.getV y then s.pc + 2 else s.pc } ∧ KeepsMemory s t) ∧
    (∃ t, exec (.op9XY0 x y n) s = .next t ∧
      t = { s with pc := if s.getV x = s.getV y then s.pc else s.pc + 2 } ∧ KeepsMemory s t)

/-! ### Registers and ALU (spec/42_register_alu.md) -/

/-- R131, R132: 6XNN puts NN in Vx and 7XNN the sum modulo 256; with X = F both leave VF as it was
(R96); nothing else changes. -/
def Obligations.ImmediateLoadAndAdd : Prop :=
  ∀ (s : State) (x : Nibble) (nn : Byte),
    (∃ t, exec (.op6XNN x nn) s = .next t ∧ t = { s with v := t.v } ∧ KeepsMemory s t ∧
      ∀ y, t.getV y = if y = x ∧ x ≠ 0xF then nn else s.getV y) ∧
    (∃ t, exec (.op7XNN x nn) s = .next t ∧ t = { s with v := t.v } ∧ KeepsMemory s t ∧
      ∀ y, t.getV y =
        if y = x ∧ x ≠ 0xF then BitVec.ofNat 8 (((s.getV x).toNat + nn.toNat) % 256) else s.getV y)

/-- R133 to R136: copy, OR, AND and XOR put their result in Vx, bit by bit; with X = F they leave VF as
it was (R96); nothing else changes. -/
def Obligations.CopyAndLogic : Prop :=
  ∀ (s : State) (x y : Nibble),
    (∃ t, exec (.op8XY0 x y) s = .next t ∧ t = { s with v := t.v } ∧ KeepsMemory s t ∧
      ∀ z, t.getV z = if z = x ∧ x ≠ 0xF then s.getV y else s.getV z) ∧
    (∃ t, exec (.op8XY1 x y) s = .next t ∧ t = { s with v := t.v } ∧ KeepsMemory s t ∧
      (∀ z, z ≠ x ∨ x = 0xF → t.getV z = s.getV z) ∧
      (x ≠ 0xF → ∀ k, (t.getV x).getLsbD k = ((s.getV x).getLsbD k || (s.getV y).getLsbD k))) ∧
    (∃ t, exec (.op8XY2 x y) s = .next t ∧ t = { s with v := t.v } ∧ KeepsMemory s t ∧
      (∀ z, z ≠ x ∨ x = 0xF → t.getV z = s.getV z) ∧
      (x ≠ 0xF → ∀ k, (t.getV x).getLsbD k = ((s.getV x).getLsbD k && (s.getV y).getLsbD k))) ∧
    (∃ t, exec (.op8XY3 x y) s = .next t ∧ t = { s with v := t.v } ∧ KeepsMemory s t ∧
      (∀ z, z ≠ x ∨ x = 0xF → t.getV z = s.getV z) ∧
      (x ≠ 0xF → ∀ k, (t.getV x).getLsbD k = ((s.getV x).getLsbD k ^^ (s.getV y).getLsbD k)))

/-- R137, R98: 8XY4 puts the sum modulo 256 in Vx and the carry in VF, the flag last; nothing else
changes. That a source VF is the old one is the spec's decision D2 (log entry 11). -/
def Obligations.AddWithCarry : Prop :=
  ∀ (s : State) (x y : Nibble),
    ∃ t, exec (.op8XY4 x y) s = .next t ∧ t = { s with v := t.v } ∧ KeepsMemory s t ∧
      ∀ z, t.getV z =
        if z = 0xF then (if (s.getV x).toNat + (s.getV y).toNat > 255 then 1 else 0)
        else if z = x then BitVec.ofNat 8 (((s.getV x).toNat + (s.getV y).toNat) % 256)
        else s.getV z

/-- R138, R140, R98: 8XY5 and 8XY7 put the difference modulo 256 in Vx and 1 in VF when the minuend is
strictly greater, else 0, the flag last; nothing else changes. Log entry 11 as in `AddWithCarry`. -/
def Obligations.SubtractWithStrictNoBorrow : Prop :=
  ∀ (s : State) (x y : Nibble),
    (∃ t, exec (.op8XY5 x y) s = .next t ∧ t = { s with v := t.v } ∧ KeepsMemory s t ∧
      ∀ z, t.getV z =
        if z = 0xF then (if (s.getV x).toNat > (s.getV y).toNat then 1 else 0)
        else if z = x then BitVec.ofNat 8 (((s.getV x).toNat + 256 - (s.getV y).toNat) % 256)
        else s.getV z) ∧
    (∃ t, exec (.op8XY7 x y) s = .next t ∧ t = { s with v := t.v } ∧ KeepsMemory s t ∧
      ∀ z, t.getV z =
        if z = 0xF then (if (s.getV y).toNat > (s.getV x).toNat then 1 else 0)
        else if z = x then BitVec.ofNat 8 (((s.getV y).toNat + 256 - (s.getV x).toNat) % 256)
        else s.getV z)

/-- R139, R141, R98: the shifts move Vx by one bit, whatever Y is, and put the bit shifted out in VF as
0 or 1, the flag last; nothing else changes. Log entry 11 as in `AddWithCarry`; that 8XYE stores 0 or 1
is the spec's derivation in R141 (log entry 29). -/
def Obligations.ShiftsByOne : Prop :=
  ∀ (s : State) (x y : Nibble),
    (∃ t, exec (.op8XY6 x y) s = .next t ∧ t = { s with v := t.v } ∧ KeepsMemory s t ∧
      ∀ z, t.getV z =
        if z = 0xF then BitVec.ofNat 8 ((s.getV x).toNat % 2)
        else if z = x then BitVec.ofNat 8 ((s.getV x).toNat / 2)
        else s.getV z) ∧
    (∃ t, exec (.op8XYE x y) s = .next t ∧ t = { s with v := t.v } ∧ KeepsMemory s t ∧
      ∀ z, t.getV z =
        if z = 0xF then BitVec.ofNat 8 ((s.getV x).toNat / 128)
        else if z = x then BitVec.ofNat 8 ((s.getV x).toNat * 2 % 256)
        else s.getV z)

/-- R142: CXNN draws exactly one byte, whatever X and NN are, and puts it masked by NN in Vx; with X = F
it leaves VF as it was (R96); nothing else changes. The byte is the next one the host supplied, or else
free (log entry 4); in every case no bit outside NN is set. -/
def Obligations.RandomByteIsMasked : Prop :=
  ∀ (s : State) (x : Nibble) (nn : Byte),
    ∃ t, exec (.opCXNN x nn) s = .next t ∧
      t = { s with v := t.v, draws := s.draws + 1, rnd := s.rnd.drop 1 } ∧ KeepsMemory s t ∧
      (∀ y, y ≠ x ∨ x = 0xF → t.getV y = s.getV y) ∧
      (x ≠ 0xF → t.getV x &&& ~~~nn = 0 ∧ ∀ r rest, s.rnd = r :: rest → t.getV x = r &&& nn)

/-! ### The address register and memory (spec/43_memory_index.md, spec/20_memory.md) -/

/-- R160, R161, R162: ANNN, FX1E (modulo 4096) and FX29 (with no mask on Vx) write I and nothing
else. -/
def Obligations.AddressRegisterWrites : Prop :=
  ∀ (s : State) (x : Nibble) (nnn : Addr),
    (∃ t, exec (.opANNN nnn) s = .next t ∧ t = { s with i := BitVec.ofNat 16 nnn.toNat } ∧
      KeepsMemory s t) ∧
    (∃ t, exec (.opFX1E x) s = .next t ∧
      t = { s with i := BitVec.ofNat 16 ((s.i.toNat + (s.getV x).toNat) % 4096) } ∧
      KeepsMemory s t) ∧
    (∃ t, exec (.opFX29 x) s = .next t ∧ t = { s with i := BitVec.ofNat 16 ((s.getV x).toNat * 5) } ∧
      KeepsMemory s t)

/-- R164: FX33 stores the hundreds, tens and units of Vx at EA(0), EA(1) and EA(2), each address modulo
4096, and changes no other byte and no other state. That I stays is the spec's decision D19 (log entry
14). -/
def Obligations.DecimalDigitsAreStored : Prop :=
  ∀ (s : State) (x : Nibble),
    ∃ t, exec (.opFX33 x) s = .next t ∧ t = { s with mem := t.mem } ∧
      t.memRead (s.ea 0) = BitVec.ofNat 8 ((s.getV x).toNat / 100) ∧
      t.memRead (s.ea 1) = BitVec.ofNat 8 ((s.getV x).toNat / 10 % 10) ∧
      t.memRead (s.ea 2) = BitVec.ofNat 8 ((s.getV x).toNat % 10) ∧
      ∀ a, (∀ k < 3, a % 4096 ≠ s.ea k) → t.memRead a = s.memRead a

/-- R166: FX55 stores V0 to Vx at EA(0) to EA(x), VF included when X = F, and changes no other byte and
no other state. That I stays is the spec's decision D19 (log entry 14). -/
def Obligations.RegistersAreStored : Prop :=
  ∀ (s : State) (x : Nibble),
    ∃ t, exec (.opFX55 x) s = .next t ∧ t = { s with mem := t.mem } ∧
      (∀ k : Nibble, k.toNat ≤ x.toNat → t.memRead (s.ea k.toNat) = s.getV k) ∧
      ∀ a, (∀ k : Nibble, k.toNat ≤ x.toNat → a % 4096 ≠ s.ea k.toNat) →
        t.memRead a = s.memRead a

/-- R168: FX65 loads V0 to Vx from EA(0) to EA(x), but leaves VF as it was (R96), and changes nothing
else. That I stays is the spec's decision D19 (log entry 14). -/
def Obligations.RegistersAreLoaded : Prop :=
  ∀ (s : State) (x : Nibble),
    ∃ t, exec (.opFX65 x) s = .next t ∧ t = { s with v := t.v } ∧ KeepsMemory s t ∧
      ∀ y : Nibble, t.getV y =
        if y.toNat ≤ x.toNat ∧ y ≠ 0xF then s.memRead (s.ea y.toNat) else s.getV y

/-- R166, R168, R165: loading back what FX55 stored, with I and memory as it left them, gives every
stored register but VF its value again. Log entry 14 as in `RegistersAreStored`. -/
def Obligations.LoadingBackRestoresTheRegisters : Prop :=
  ∀ (s t u : State) (x : Nibble), exec (.opFX55 x) s = .next t →
    u.mem = t.mem → u.font = t.font → u.i = t.i →
    ∃ r, exec (.opFX65 x) u = .next r ∧
      ∀ y : Nibble, y.toNat ≤ x.toNat → y ≠ 0xF → r.getV y = s.getV y

/-- R64, R257: every byte that FX55 or FX33 stores, at any offset, is what a later fetch reads there, in
whichever half of the word it falls, and a byte they do not store is fetched as it was. `u` is any state
whose memory is as the instruction left it, the next cycle's among them. That fetch and data share one
array is the spec's decision D7 (log entry 10), and that the byte at PC is the high half is D5 (log
entry 8). -/
def Obligations.StoredCodeIsFetched : Prop :=
  ∀ (s t u : State) (x : Nibble), u.mem = t.mem → u.font = t.font →
    (exec (.opFX55 x) s = .next t →
      (∀ k : Nibble, k.toNat ≤ x.toNat →
        (s.ea k.toNat = u.pc.toNat → u.fetch.extractLsb' 8 8 = s.getV k) ∧
        (s.ea k.toNat = (u.pc.toNat + 1) % 4096 → u.fetch.extractLsb' 0 8 = s.getV k)) ∧
      ((∀ k : Nibble, k.toNat ≤ x.toNat → s.ea k.toNat ≠ u.pc.toNat) →
        u.fetch.extractLsb' 8 8 = s.memRead u.pc.toNat) ∧
      ((∀ k : Nibble, k.toNat ≤ x.toNat → s.ea k.toNat ≠ (u.pc.toNat + 1) % 4096) →
        u.fetch.extractLsb' 0 8 = s.memRead (u.pc.toNat + 1))) ∧
    (exec (.opFX33 x) s = .next t →
      (∀ k b, ([(s.getV x).toNat / 100, (s.getV x).toNat / 10 % 10, (s.getV x).toNat % 10] : List Nat)[k]? =
          some b →
        (s.ea k = u.pc.toNat → u.fetch.extractLsb' 8 8 = BitVec.ofNat 8 b) ∧
        (s.ea k = (u.pc.toNat + 1) % 4096 → u.fetch.extractLsb' 0 8 = BitVec.ofNat 8 b)) ∧
      ((∀ k < 3, s.ea k ≠ u.pc.toNat) → u.fetch.extractLsb' 8 8 = s.memRead u.pc.toNat) ∧
      ((∀ k < 3, s.ea k ≠ (u.pc.toNat + 1) % 4096) →
        u.fetch.extractLsb' 0 8 = s.memRead (u.pc.toNat + 1)))

/-- The canonical form of memory (log entry 21) makes equal memories equal data: two canonical memories
that read alike at every address are one list. -/
def Obligations.CanonicalMemoryIsUnique : Prop :=
  ∀ (font : Config.Font) (m m' : Memory), m.wf font = true → m'.wf font = true →
    (∀ a, a < 4096 → m.read font a = m'.read font a) → m = m'

/-! ### Display (spec/44_display.md) -/

/-- R183, R181: 00E0 sets every pixel false and changes nothing else. -/
def Obligations.ClearScreen : Prop :=
  ∀ s : State,
    ∃ t, exec .op00E0 s = .next t ∧ t = { s with fb := t.fb } ∧ KeepsMemory s t ∧
      ∀ x y, t.fb.pixel x y = false

/-- R186, R187, R182: DXYN toggles exactly the pixels that a set bit of the sprite lands on, at wrapped
coordinates, and leaves every other pixel; VF is 1 if one of those was set before, else 0; nothing else
changes. That coordinates from VF are the old ones is the spec's decision D2 (log entry 11), and that
the sprite has N rows the spec's resolution of conflict C7 (log entry 31). -/
def Obligations.SpriteDrawTogglesItsPixels : Prop :=
  ∀ (s : State) (x y n : Nibble),
    ∃ t, exec (.opDXYN x y n) s = .next t ∧ t = { s with v := t.v, fb := t.fb } ∧ KeepsMemory s t ∧
      (∀ z, z ≠ 0xF → t.getV z = s.getV z) ∧
      (∀ px py, px < 64 → py < 32 →
        (s.SpriteCovers (s.getV x).toNat (s.getV y).toNat n.toNat px py →
          t.fb.pixel px py = !s.fb.pixel px py) ∧
        (¬ s.SpriteCovers (s.getV x).toNat (s.getV y).toNat n.toNat px py →
          t.fb.pixel px py = s.fb.pixel px py)) ∧
      ((∃ px py, s.SpriteCovers (s.getV x).toNat (s.getV y).toNat n.toNat px py ∧
          s.fb.pixel px py = true) → t.getV 0xF = 1) ∧
      ((∀ px py, s.SpriteCovers (s.getV x).toNat (s.getV y).toNat n.toNat px py →
          s.fb.pixel px py = false) → t.getV 0xF = 0)

/-- R187: drawing the same sprite again at the same place restores FB, and the second draw gives VF = 1
exactly when the first one set at least one pixel, else 0. `u` is any state in which memory, I and FB
are as the first draw left them and the second draw's registers hold the first one's coordinates: the
state after the first draw itself when X and Y are other than F (or VF comes out as it was), and any
other once a program has put the coordinates back. Log entries 11 and 31 as in
`SpriteDrawTogglesItsPixels`; the spec resolves conflict C8 so. -/
def Obligations.DrawingTwiceRestoresTheDisplay : Prop :=
  ∀ (s t u : State) (x y x' y' n : Nibble), exec (.opDXYN x y n) s = .next t →
    KeepsMemory t u → u.i = t.i → u.fb = t.fb → u.getV x' = s.getV x → u.getV y' = s.getV y →
    ∃ r, exec (.opDXYN x' y' n) u = .next r ∧ r.fb = s.fb ∧
      ((∃ px py, s.fb.pixel px py = false ∧ t.fb.pixel px py = true) → r.getV 0xF = 1) ∧
      ((¬ ∃ px py, s.fb.pixel px py = false ∧ t.fb.pixel px py = true) → r.getV 0xF = 0)

/-- R184: GET_FRAME answers the grid as it stands and changes no state; that it does so with RUN false
too is the spec's decision D15 (log entry 15). How a step returns the grid is the model's choice (log
entry 23). -/
def Obligations.GetFrameAnswersTheGrid : Prop :=
  ∀ (s : State) (cs : List Command), s.host = .getFrame :: cs →
    step s = .next { s with host := cs } ∧ Command.answer s .getFrame = some s.fb

/-! ### Input and timers (spec/45_input_timers.md, spec/60_exceptions.md) -/

/-- R202, R203, R110: EX9E skips when Vx is the id of a held key and EXA1 when it is not; nothing else
changes. That a value above 0xF is never held is the spec's decision D18 (log entry 13). -/
def Obligations.KeySkips : Prop :=
  ∀ (s : State) (x : Nibble),
    (∃ t, exec (.opEX9E x) s = .next t ∧ KeepsMemory s t ∧
      t = { s with pc :=
        if h : (s.getV x).toNat < 16 then (if s.keys[(s.getV x).toNat] = true then s.pc + 2 else s.pc)
        else s.pc }) ∧
    (∃ t, exec (.opEXA1 x) s = .next t ∧ KeepsMemory s t ∧
      t = { s with pc :=
        if h : (s.getV x).toNat < 16 then (if s.keys[(s.getV x).toNat] = true then s.pc else s.pc + 2)
        else s.pc + 2 })

/-- R204, R200: with a key held, FX0A puts the lowest held id in Vx and PC stays advanced; with X = F VF
is as it was (R96); nothing else changes. That PC stays advanced here and is taken back while no key is
held is the spec's resolution of conflict C3 (log entry 30). -/
def Obligations.KeyWaitTakesTheLowestKey : Prop :=
  ∀ (s : State) (x : Nibble) (k : Nat), (hk : k < 16) → s.keys[k] = true →
    (∀ j, (hj : j < k) → s.keys[j]'(Nat.lt_trans hj hk) = false) →
    ∃ t, exec (.opFX0A x) s = .next t ∧ t = { s with v := t.v } ∧ KeepsMemory s t ∧
      ∀ y, t.getV y = if y = x ∧ x ≠ 0xF then BitVec.ofNat 8 k else s.getV y

/-- R204, R94: with no key held, FX0A takes PC back by 2 and changes nothing else, so that any number of
CYCLEs at it leave the whole state as it is. The way back is the spec's resolution of conflict C3 (log
entry 30). -/
def Obligations.KeyWaitRepeats : Prop :=
  ∀ (s : State) (x : Nibble), (∀ k, (hk : k < 16) → s.keys[k] = false) →
    exec (.opFX0A x) s = .next { s with pc := s.pc - 2 } ∧
    (s.host = [] → s.run = true → decode s.fetch = .ok (.opFX0A x) →
      ∀ k, Host.Core.run Sys2Proof.core k s = .next s)

/-- R205, R206, R207: FX07 puts DT in Vx (with X = F VF is as it was, R96), FX15 and FX18 put Vx in DT
and ST; nothing else changes, and no event is emitted. -/
def Obligations.TimerRegisterMoves : Prop :=
  ∀ (s : State) (x : Nibble),
    (∃ t, exec (.opFX07 x) s = .next t ∧ t = { s with v := t.v } ∧ KeepsMemory s t ∧
      ∀ y, t.getV y = if y = x ∧ x ≠ 0xF then s.dt else s.getV y) ∧
    (∃ t, exec (.opFX15 x) s = .next t ∧ t = { s with dt := s.getV x } ∧ KeepsMemory s t) ∧
    (∃ t, exec (.opFX18 x) s = .next t ∧ t = { s with st := s.getV x } ∧ KeepsMemory s t)

/-- R201: KEY_DOWN adds its id to the set of held keys and KEY_UP removes it; nothing else changes. That
they work whatever RUN is is the spec's decision D15 (log entry 15). -/
def Obligations.KeyCommandsChangeOneKey : Prop :=
  ∀ (s : State) (id : Nat) (cs : List Command), id < 16 →
    (s.host = .keyDown id :: cs → ∃ t, step s = .next t ∧ t = { s with keys := t.keys, host := cs } ∧
      ∀ k, t.isPressed k = (decide (k = id) || s.isPressed k)) ∧
    (s.host = .keyUp id :: cs → ∃ t, step s = .next t ∧ t = { s with keys := t.keys, host := cs } ∧
      ∀ k, t.isPressed k = (!decide (k = id) && s.isPressed k))

/-- R235: a FRAME renders FB, then counts DT and ST down to no less than 0, and emits TONE_START when
that makes ST exactly 1; nothing else changes, and with RUN false nothing at all (also after a fatal
error, by the spec's decision D15, log entry 15). -/
def Obligations.FrameRendersAndCountsDown : Prop :=
  ∀ (s : State) (cs : List Command), s.host = .frame :: cs →
    (s.run = false → step s = .next { s with host := cs }) ∧
    (s.run = true → step s = .next { s with
      dt := BitVec.ofNat 8 (s.dt.toNat - 1)
      st := BitVec.ofNat 8 (s.st.toNat - 1)
      events := s.events ++ .render s.fb ::
        (if 0 < s.st.toNat ∧ s.st.toNat - 1 = 1 then [.toneStart] else [])
      host := cs })

/-- R236, R13, R235, R221: a step only adds events; TONE_START comes once, and exactly from a FRAME with
RUN true that finds ST at 2; RENDER only from a FRAME, with FB; FATAL only from a CYCLE on an illegal
word, with that word. That the events are a list which no step shortens, LOAD included, is the model's
choice (log entry 2), that a FRAME with RUN false emits nothing after a fatal error too is the spec's
decision D15 (log entry 15), and that an empty list of commands means a CYCLE is the model's choice (log
entry 1). -/
def Obligations.EventsComeOnlyFromTheirCauses : Prop :=
  ∀ s t : State, step s = .next t →
    ∃ new, t.events = s.events ++ new ∧
      new.count .toneStart =
        (if s.run = true ∧ s.st = 2 ∧ s.host.head? = some .frame then 1 else 0) ∧
      (∀ g, .render g ∈ new ↔ s.run = true ∧ s.host.head? = some .frame ∧ g = s.fb) ∧
      (∀ w, .fatal w ∈ new ↔
        s.run = true ∧ (∃ cs, s.GivesCycle cs) ∧ w = s.fetch ∧ wellFormedWord w = false)

/-- R237: after n FRAMEs with RUN true and nothing between them, each timer is n lower, and no lower
than 0. -/
def Obligations.TimersReachZeroAfterTheirFrames : Prop :=
  ∀ (n : Nat) (s : State), s.run = true → s.host = List.replicate n .frame →
    ∃ t, Host.Core.run Sys2Proof.core n s = .next t ∧ t.run = true ∧
      t.dt.toNat = s.dt.toNat - n ∧ t.st.toNat = s.st.toNat - n

/-! ### The run state, LOAD and reset (spec/10_state.md, spec/70_reset_and_hazards.md) -/

/-- R31, R225: LOAD makes RUN true and the fatal decode error makes it false; no other step changes it;
while it is false, CYCLE and FRAME do nothing (also after the error, by the spec's decision D15, log
entry 15). -/
def Obligations.RunIsWrittenOnlyByLoadAndFatal : Prop :=
  ∀ s t : State, step s = .next t →
    (∀ bytes cs, s.host = .load bytes :: cs → t.run = true) ∧
    (∀ cs, s.GivesCycle cs → s.run = true → wellFormedWord s.fetch = false → t.run = false) ∧
    (t.run ≠ s.run → (∃ bytes cs, s.host = .load bytes :: cs) ∨
      (∃ cs, s.GivesCycle cs ∧ s.run = true ∧ wellFormedWord s.fetch = false)) ∧
    (∀ cs, s.run = false → s.GivesCycle cs ∨ s.host = .frame :: cs → t = { s with host := cs })

/-- R30, R29: KEYS changes only by KEY_DOWN, KEY_UP and LOAD; FB only by LOAD, 00E0 and DXYN; FONT and
CYCLES_PER_FRAME never change (log entries 3 and 16). -/
def Obligations.WhoChangesKeysAndDisplay : Prop :=
  ∀ s t : State, step s = .next t →
    (t.keys ≠ s.keys → (∃ id cs, s.host = .keyDown id :: cs) ∨ (∃ id cs, s.host = .keyUp id :: cs) ∨
      ∃ bytes cs, s.host = .load bytes :: cs) ∧
    (t.fb ≠ s.fb → (∃ bytes cs, s.host = .load bytes :: cs) ∨
      ((∃ cs, s.GivesCycle cs) ∧
        (decode s.fetch = .ok .op00E0 ∨ ∃ x y n, decode s.fetch = .ok (.opDXYN x y n)))) ∧
    t.font = s.font ∧ t.cyclesPerFrame = s.cyclesPerFrame

/-- R252, R39: what a LOAD leaves. The zeros of V, I, DT, ST, STACK and 0x050 to 0x1FF are the spec's
decision D9 (log entry 5). That FONT lies at 0x000 is the spec's derivation in R56 (log entry 22), and
that it stays there after a LOAD the spec's resolution of conflict C5 (log entry 31). The model's own
fields stay: the events (log entry 2), FONT (log entry 3), the random source (log entry 4) and
CYCLES_PER_FRAME (log entry 16). -/
def Obligations.LoadResetsTheBlock : Prop :=
  ∀ (s : State) (bytes : List Byte) (cs : List Command),
    s.host = .load bytes :: cs → bytes.length ≤ 0x0E00 →
    ∃ t, step s = .next t ∧
      (∀ x, t.getV x = 0) ∧ t.i = 0 ∧ t.pc = 0x200 ∧ t.sp = 0 ∧ (∀ k, t.getStack k = 0) ∧
      t.dt = 0 ∧ t.st = 0 ∧ t.run = true ∧
      (∀ x y, t.fb.pixel x y = false) ∧ (∀ k, t.isPressed k = false) ∧
      (∀ a, (h : a < 0x50) → t.memRead a = s.font[a]) ∧
      (∀ a, 0x50 ≤ a → a < 0x200 → t.memRead a = 0) ∧
      (∀ k, (h : k < bytes.length) → t.memRead (0x200 + k) = bytes[k]) ∧
      (∀ a, 0x200 + bytes.length ≤ a → a < 0x1000 → t.memRead a = 0) ∧
      t.events = s.events ∧ t.font = s.font ∧ t.cyclesPerFrame = s.cyclesPerFrame ∧
      t.rnd = s.rnd ∧ t.draws = s.draws ∧ t.host = cs

/-- R39, R253: the state before a LOAD does not matter: two states that agree on the model's own fields
(which are not the block's state) take the same LOAD to the same state. -/
def Obligations.LoadForgetsTheBlock : Prop :=
  ∀ (s s' : State) (bytes : List Byte) (cs : List Command),
    s.host = .load bytes :: cs → s'.host = .load bytes :: cs →
    s.font = s'.font → s.cyclesPerFrame = s'.cyclesPerFrame → s.rnd = s'.rnd → s.draws = s'.draws →
    s.events = s'.events → step s = step s'

/-- R14: a LOAD longer than 0x0E00 bytes and a key id above 0xF have no transition: they are refused, by
name. That this is a refusal, and no truncation or masking, is the spec's decision D17 (log entry
17). -/
def Obligations.BrokenHostDutiesAreRefused : Prop :=
  ∀ (s : State) (bytes : List Byte) (id : Nat) (cs : List Command),
    (s.host = .load bytes :: cs → 0x0E00 < bytes.length →
      step s = .refused (.loadTooLong bytes.length)) ∧
    (s.host = .keyDown id :: cs → 0xF < id → step s = .refused (.keyIdOutOfRange id)) ∧
    (s.host = .keyUp id :: cs → 0xF < id → step s = .refused (.keyIdOutOfRange id))

/-- R38: the state after construction. The values DOC00 does not give are the spec's decisions D9 and
D20 (log entries 5 and 6), the font bytes are R57's default (log entry 3), and that they lie at 0x000 is
the spec's derivation in R56 (log entry 22). -/
def Obligations.StateAfterConstruction : Prop :=
  (∀ x, State.reset.getV x = 0) ∧ State.reset.i = 0 ∧ State.reset.pc = 0x200 ∧ State.reset.sp = 0 ∧
  (∀ k, State.reset.getStack k = 0) ∧ State.reset.dt = 0 ∧ State.reset.st = 0 ∧
  (∀ a, (h : a < 80) → State.reset.memRead a = Config.defaultFont[a]) ∧
  (∀ a, 80 ≤ a → a < 4096 → State.reset.memRead a = 0) ∧
  (∀ x y, State.reset.fb.pixel x y = false) ∧ (∀ k, State.reset.isPressed k = false) ∧
  State.reset.run = false

/-! ### Whole-machine rules -/

/-- The invariant holds after construction: memory is canonical (log entry 21) and I is below 4096
(R23). -/
def Obligations.InvariantHoldsAtReset : Prop := State.reset.Inv

/-- Every step keeps the invariant: memory stays canonical (log entry 21), and I stays below 4096, so
that bits 15 to 12 of I are always 0 (R23). -/
def Obligations.EveryStepKeepsTheInvariant : Prop :=
  ∀ s t : State, s.Inv → step s = .next t → t.Inv

/-- R14, R220, R222: as long as the host keeps its duties, no step ever stops, from any state, for any
number of steps. That an illegal word is a next state is log entry 18; that a broken duty is a refusal
is the spec's decision D17 (log entry 17). -/
def Obligations.RunsNeverStop : Prop := ∀ (k : Nat) (s : State), s.HostKeepsDuties → SafeFor k s

/-- R11: commands run one after the other, each to its end: the steps of a machine whose host gives `cs`
are the commands `cs` run in order, with the same end state or the same refusal. That they come from a
list in State is the model's choice (log entry 1). -/
def Obligations.StepsRunTheHostsCommandsInOrder : Prop :=
  ∀ (cs : List Command) (s : State), s.host = [] →
    Host.Core.run Sys2Proof.core cs.length { s with host := cs } = runCommands cs s

/-- R15: a TICK is CYCLES_PER_FRAME CYCLE commands followed by one FRAME. The order is the spec's
decision D16 (log entry 16). -/
def Obligations.TickIsItsCyclesThenAFrame : Prop :=
  ∀ s : State, s.host = [] →
    Host.Core.run Sys2Proof.core (s.cyclesPerFrame + 1)
      { s with host := List.replicate s.cyclesPerFrame .cycle ++ [.frame] } = tick s

/-- R220: the two error kinds and when each is met. The codes are the spec's decision D3 (log entry 24),
and that NotPlaying is met after a fatal error too, not only before a program is loaded, is the spec's
decision D15 (log entry 15). -/
def Obligations.ErrorKindsAndTheirCauses : Prop :=
  ErrorKind.undefinedOpcode.code = 1 ∧ ErrorKind.notPlaying.code = 0 ∧
  ∀ (s : State) (isCycle : Bool),
    (s.error isCycle = some .notPlaying ↔ s.run = false) ∧
    (s.error isCycle = some .undefinedOpcode ↔
      s.run = true ∧ isCycle = true ∧ wellFormedWord s.fetch = false)
end

