-- ==== Sys2Proof/Laws/Encoding.lean ====
section
/-! SUPPORT. The fields of the words the encoder builds, and those words as numbers (spec/30_encoding.md
rules R71 and R73). -/

namespace Sys2Proof

/-! ### Format A -/

@[simp] theorem opClass_wordA (c : Nibble) (nnn : Addr) : Word.opClass (wordA c nnn) = c :=
  BitVec.extractLsb'_append_eq_left

@[simp] theorem fieldNNN_wordA (c : Nibble) (nnn : Addr) : Word.fieldNNN (wordA c nnn) = nnn :=
  BitVec.extractLsb'_append_eq_right

theorem toNat_wordA (c : Nibble) (nnn : Addr) : (wordA c nnn).toNat = c.toNat * 4096 + nnn.toNat := by
  rw [wordA, BitVec.toNat_append, ← Nat.shiftLeft_add_eq_or_of_lt nnn.isLt, Nat.shiftLeft_eq]

/-! ### Formats XNN and XS -/

@[simp] theorem opClass_wordXNN (c x : Nibble) (nn : Byte) : Word.opClass (wordXNN c x nn) = c :=
  BitVec.extractLsb'_append_eq_left

theorem toNat_wordXNN (c x : Nibble) (nn : Byte) :
    (wordXNN c x nn).toNat = c.toNat * 4096 + x.toNat * 256 + nn.toNat := by
  rw [wordXNN, BitVec.toNat_append, ← Nat.shiftLeft_add_eq_or_of_lt (BitVec.isLt _),
    BitVec.toNat_append, ← Nat.shiftLeft_add_eq_or_of_lt nn.isLt, Nat.shiftLeft_eq, Nat.shiftLeft_eq,
    Nat.add_assoc]

@[simp] theorem fieldX_wordXNN (c x : Nibble) (nn : Byte) : Word.fieldX (wordXNN c x nn) = x := by
  apply BitVec.eq_of_toNat_eq
  have := x.isLt
  have := nn.isLt
  simp only [Word.fieldX, BitVec.extractLsb'_toNat, toNat_wordXNN, Nat.shiftRight_eq_div_pow]
  omega

@[simp] theorem fieldNN_wordXNN (c x : Nibble) (nn : Byte) : Word.fieldNN (wordXNN c x nn) = nn := by
  apply BitVec.eq_of_toNat_eq
  have := nn.isLt
  simp only [Word.fieldNN, BitVec.extractLsb'_toNat, toNat_wordXNN, Nat.shiftRight_zero]
  omega

/-! ### Formats XY and XYN -/

@[simp] theorem opClass_wordXYN (c x y n : Nibble) : Word.opClass (wordXYN c x y n) = c :=
  BitVec.extractLsb'_append_eq_left

theorem toNat_wordXYN (c x y n : Nibble) :
    (wordXYN c x y n).toNat = c.toNat * 4096 + x.toNat * 256 + y.toNat * 16 + n.toNat := by
  have h : (y ++ n : Byte).toNat = y.toNat * 16 + n.toNat := by
    rw [BitVec.toNat_append, ← Nat.shiftLeft_add_eq_or_of_lt n.isLt, Nat.shiftLeft_eq]
  have := toNat_wordXNN c x (y ++ n)
  rw [h] at this
  rw [Nat.add_assoc, ← this]
  rfl

@[simp] theorem fieldX_wordXYN (c x y n : Nibble) : Word.fieldX (wordXYN c x y n) = x :=
  fieldX_wordXNN c x (y ++ n)

@[simp] theorem fieldY_wordXYN (c x y n : Nibble) : Word.fieldY (wordXYN c x y n) = y := by
  apply BitVec.eq_of_toNat_eq
  have := y.isLt
  have := n.isLt
  simp only [Word.fieldY, BitVec.extractLsb'_toNat, toNat_wordXYN, Nat.shiftRight_eq_div_pow]
  omega

@[simp] theorem fieldN_wordXYN (c x y n : Nibble) : Word.fieldN (wordXYN c x y n) = n := by
  apply BitVec.eq_of_toNat_eq
  have := n.isLt
  simp only [Word.fieldN, BitVec.extractLsb'_toNat, toNat_wordXYN, Nat.shiftRight_zero]
  omega

/-! ### Every word, from its fields -/

theorem wordA_fields (w : Word) : wordA (Word.opClass w) (Word.fieldNNN w) = w := by
  apply BitVec.eq_of_toNat_eq
  have := w.isLt
  simp only [toNat_wordA, Word.opClass, Word.fieldNNN, BitVec.extractLsb'_toNat,
    Nat.shiftRight_eq_div_pow]
  omega

theorem wordXNN_fields (w : Word) :
    wordXNN (Word.opClass w) (Word.fieldX w) (Word.fieldNN w) = w := by
  apply BitVec.eq_of_toNat_eq
  have := w.isLt
  simp only [toNat_wordXNN, Word.opClass, Word.fieldX, Word.fieldNN, BitVec.extractLsb'_toNat,
    Nat.shiftRight_eq_div_pow]
  omega

theorem wordXYN_fields (w : Word) :
    wordXYN (Word.opClass w) (Word.fieldX w) (Word.fieldY w) (Word.fieldN w) = w := by
  apply BitVec.eq_of_toNat_eq
  have := w.isLt
  simp only [toNat_wordXYN, Word.opClass, Word.fieldX, Word.fieldY, Word.fieldN,
    BitVec.extractLsb'_toNat, Nat.shiftRight_eq_div_pow]
  omega

/-- A nibble is one of sixteen literals: the case split of a dispatch on a class. -/
theorem nibble_cases (c : Nibble) :
    c = 0#4 ∨ c = 1#4 ∨ c = 2#4 ∨ c = 3#4 ∨ c = 4#4 ∨ c = 5#4 ∨ c = 6#4 ∨ c = 7#4 ∨
    c = 8#4 ∨ c = 9#4 ∨ c = 10#4 ∨ c = 11#4 ∨ c = 12#4 ∨ c = 13#4 ∨ c = 14#4 ∨ c = 15#4 := by
  revert c
  decide

/-! ### The two bytes of a word -/

@[simp] theorem wordOfBytes_split (w : Word) :
    wordOfBytes (w.extractLsb' 8 8) (w.extractLsb' 0 8) = w := by
  apply BitVec.eq_of_toNat_eq
  have := w.isLt
  rw [wordOfBytes, BitVec.toNat_append, ← Nat.shiftLeft_add_eq_or_of_lt (BitVec.isLt _),
    Nat.shiftLeft_eq]
  simp only [BitVec.extractLsb'_toNat, Nat.shiftRight_eq_div_pow]
  omega

end Sys2Proof
end

