-- ==== Sys2Proof/Laws/State.lean ====
section
/-! SUPPORT. One lemma per field per update of State, and per view (a register, a stack entry, a byte of
memory, a key, an effective address, the next draw) per update that leaves it alone. All are true by
rfl, so that no later proof unfolds a record update; each is proved `by rfl`, and not `:= rfl`, so that
simp also rewrites inside the Decidable argument of an `if`. -/

namespace Sys2Proof.Machine.State

variable (s : State)

/-! ### setV -/

@[simp] theorem v_setV (x : Nibble) (b : Byte) : (s.setV x b).v = s.v.set x.toNat b x.isLt := by rfl
@[simp] theorem i_setV (x : Nibble) (b : Byte) : (s.setV x b).i = s.i := by rfl
@[simp] theorem pc_setV (x : Nibble) (b : Byte) : (s.setV x b).pc = s.pc := by rfl
@[simp] theorem sp_setV (x : Nibble) (b : Byte) : (s.setV x b).sp = s.sp := by rfl
@[simp] theorem stack_setV (x : Nibble) (b : Byte) : (s.setV x b).stack = s.stack := by rfl
@[simp] theorem dt_setV (x : Nibble) (b : Byte) : (s.setV x b).dt = s.dt := by rfl
@[simp] theorem st_setV (x : Nibble) (b : Byte) : (s.setV x b).st = s.st := by rfl
@[simp] theorem mem_setV (x : Nibble) (b : Byte) : (s.setV x b).mem = s.mem := by rfl
@[simp] theorem fb_setV (x : Nibble) (b : Byte) : (s.setV x b).fb = s.fb := by rfl
@[simp] theorem keys_setV (x : Nibble) (b : Byte) : (s.setV x b).keys = s.keys := by rfl
@[simp] theorem run_setV (x : Nibble) (b : Byte) : (s.setV x b).run = s.run := by rfl
@[simp] theorem font_setV (x : Nibble) (b : Byte) : (s.setV x b).font = s.font := by rfl
@[simp] theorem cyclesPerFrame_setV (x : Nibble) (b : Byte) : (s.setV x b).cyclesPerFrame = s.cyclesPerFrame := by rfl
@[simp] theorem rnd_setV (x : Nibble) (b : Byte) : (s.setV x b).rnd = s.rnd := by rfl
@[simp] theorem draws_setV (x : Nibble) (b : Byte) : (s.setV x b).draws = s.draws := by rfl
@[simp] theorem events_setV (x : Nibble) (b : Byte) : (s.setV x b).events = s.events := by rfl
@[simp] theorem host_setV (x : Nibble) (b : Byte) : (s.setV x b).host = s.host := by rfl
@[simp] theorem getStack_setV (x : Nibble) (b : Byte) (j : Nibble) : (s.setV x b).getStack j = s.getStack j := by rfl
@[simp] theorem memRead_setV (x : Nibble) (b : Byte) (n : Nat) : (s.setV x b).memRead n = s.memRead n := by rfl
@[simp] theorem isPressed_setV (x : Nibble) (b : Byte) (n : Nat) : (s.setV x b).isPressed n = s.isPressed n := by rfl
@[simp] theorem ea_setV (x : Nibble) (b : Byte) (n : Nat) : (s.setV x b).ea n = s.ea n := by rfl
@[simp] theorem drawn_setV (x : Nibble) (b : Byte) : (s.setV x b).drawn = s.drawn := by rfl

/-! ### setI -/

@[simp] theorem v_setI (w : Word) : (s.setI w).v = s.v := by rfl
@[simp] theorem i_setI (w : Word) : (s.setI w).i = w := by rfl
@[simp] theorem pc_setI (w : Word) : (s.setI w).pc = s.pc := by rfl
@[simp] theorem sp_setI (w : Word) : (s.setI w).sp = s.sp := by rfl
@[simp] theorem stack_setI (w : Word) : (s.setI w).stack = s.stack := by rfl
@[simp] theorem dt_setI (w : Word) : (s.setI w).dt = s.dt := by rfl
@[simp] theorem st_setI (w : Word) : (s.setI w).st = s.st := by rfl
@[simp] theorem mem_setI (w : Word) : (s.setI w).mem = s.mem := by rfl
@[simp] theorem fb_setI (w : Word) : (s.setI w).fb = s.fb := by rfl
@[simp] theorem keys_setI (w : Word) : (s.setI w).keys = s.keys := by rfl
@[simp] theorem run_setI (w : Word) : (s.setI w).run = s.run := by rfl
@[simp] theorem font_setI (w : Word) : (s.setI w).font = s.font := by rfl
@[simp] theorem cyclesPerFrame_setI (w : Word) : (s.setI w).cyclesPerFrame = s.cyclesPerFrame := by rfl
@[simp] theorem rnd_setI (w : Word) : (s.setI w).rnd = s.rnd := by rfl
@[simp] theorem draws_setI (w : Word) : (s.setI w).draws = s.draws := by rfl
@[simp] theorem events_setI (w : Word) : (s.setI w).events = s.events := by rfl
@[simp] theorem host_setI (w : Word) : (s.setI w).host = s.host := by rfl
@[simp] theorem getV_setI (w : Word) (y : Nibble) : (s.setI w).getV y = s.getV y := by rfl
@[simp] theorem getStack_setI (w : Word) (j : Nibble) : (s.setI w).getStack j = s.getStack j := by rfl
@[simp] theorem memRead_setI (w : Word) (n : Nat) : (s.setI w).memRead n = s.memRead n := by rfl
@[simp] theorem isPressed_setI (w : Word) (n : Nat) : (s.setI w).isPressed n = s.isPressed n := by rfl
@[simp] theorem drawn_setI (w : Word) : (s.setI w).drawn = s.drawn := by rfl

/-! ### setPc -/

@[simp] theorem v_setPc (a : Addr) : (s.setPc a).v = s.v := by rfl
@[simp] theorem i_setPc (a : Addr) : (s.setPc a).i = s.i := by rfl
@[simp] theorem pc_setPc (a : Addr) : (s.setPc a).pc = a := by rfl
@[simp] theorem sp_setPc (a : Addr) : (s.setPc a).sp = s.sp := by rfl
@[simp] theorem stack_setPc (a : Addr) : (s.setPc a).stack = s.stack := by rfl
@[simp] theorem dt_setPc (a : Addr) : (s.setPc a).dt = s.dt := by rfl
@[simp] theorem st_setPc (a : Addr) : (s.setPc a).st = s.st := by rfl
@[simp] theorem mem_setPc (a : Addr) : (s.setPc a).mem = s.mem := by rfl
@[simp] theorem fb_setPc (a : Addr) : (s.setPc a).fb = s.fb := by rfl
@[simp] theorem keys_setPc (a : Addr) : (s.setPc a).keys = s.keys := by rfl
@[simp] theorem run_setPc (a : Addr) : (s.setPc a).run = s.run := by rfl
@[simp] theorem font_setPc (a : Addr) : (s.setPc a).font = s.font := by rfl
@[simp] theorem cyclesPerFrame_setPc (a : Addr) : (s.setPc a).cyclesPerFrame = s.cyclesPerFrame := by rfl
@[simp] theorem rnd_setPc (a : Addr) : (s.setPc a).rnd = s.rnd := by rfl
@[simp] theorem draws_setPc (a : Addr) : (s.setPc a).draws = s.draws := by rfl
@[simp] theorem events_setPc (a : Addr) : (s.setPc a).events = s.events := by rfl
@[simp] theorem host_setPc (a : Addr) : (s.setPc a).host = s.host := by rfl
@[simp] theorem getV_setPc (a : Addr) (y : Nibble) : (s.setPc a).getV y = s.getV y := by rfl
@[simp] theorem getStack_setPc (a : Addr) (j : Nibble) : (s.setPc a).getStack j = s.getStack j := by rfl
@[simp] theorem memRead_setPc (a : Addr) (n : Nat) : (s.setPc a).memRead n = s.memRead n := by rfl
@[simp] theorem isPressed_setPc (a : Addr) (n : Nat) : (s.setPc a).isPressed n = s.isPressed n := by rfl
@[simp] theorem ea_setPc (a : Addr) (n : Nat) : (s.setPc a).ea n = s.ea n := by rfl
@[simp] theorem drawn_setPc (a : Addr) : (s.setPc a).drawn = s.drawn := by rfl

/-! ### setSp -/

@[simp] theorem v_setSp (k : Nibble) : (s.setSp k).v = s.v := by rfl
@[simp] theorem i_setSp (k : Nibble) : (s.setSp k).i = s.i := by rfl
@[simp] theorem pc_setSp (k : Nibble) : (s.setSp k).pc = s.pc := by rfl
@[simp] theorem sp_setSp (k : Nibble) : (s.setSp k).sp = k := by rfl
@[simp] theorem stack_setSp (k : Nibble) : (s.setSp k).stack = s.stack := by rfl
@[simp] theorem dt_setSp (k : Nibble) : (s.setSp k).dt = s.dt := by rfl
@[simp] theorem st_setSp (k : Nibble) : (s.setSp k).st = s.st := by rfl
@[simp] theorem mem_setSp (k : Nibble) : (s.setSp k).mem = s.mem := by rfl
@[simp] theorem fb_setSp (k : Nibble) : (s.setSp k).fb = s.fb := by rfl
@[simp] theorem keys_setSp (k : Nibble) : (s.setSp k).keys = s.keys := by rfl
@[simp] theorem run_setSp (k : Nibble) : (s.setSp k).run = s.run := by rfl
@[simp] theorem font_setSp (k : Nibble) : (s.setSp k).font = s.font := by rfl
@[simp] theorem cyclesPerFrame_setSp (k : Nibble) : (s.setSp k).cyclesPerFrame = s.cyclesPerFrame := by rfl
@[simp] theorem rnd_setSp (k : Nibble) : (s.setSp k).rnd = s.rnd := by rfl
@[simp] theorem draws_setSp (k : Nibble) : (s.setSp k).draws = s.draws := by rfl
@[simp] theorem events_setSp (k : Nibble) : (s.setSp k).events = s.events := by rfl
@[simp] theorem host_setSp (k : Nibble) : (s.setSp k).host = s.host := by rfl
@[simp] theorem getV_setSp (k : Nibble) (y : Nibble) : (s.setSp k).getV y = s.getV y := by rfl
@[simp] theorem getStack_setSp (k : Nibble) (j : Nibble) : (s.setSp k).getStack j = s.getStack j := by rfl
@[simp] theorem memRead_setSp (k : Nibble) (n : Nat) : (s.setSp k).memRead n = s.memRead n := by rfl
@[simp] theorem isPressed_setSp (k : Nibble) (n : Nat) : (s.setSp k).isPressed n = s.isPressed n := by rfl
@[simp] theorem ea_setSp (k : Nibble) (n : Nat) : (s.setSp k).ea n = s.ea n := by rfl
@[simp] theorem drawn_setSp (k : Nibble) : (s.setSp k).drawn = s.drawn := by rfl

/-! ### setStack -/

@[simp] theorem v_setStack (k : Nibble) (a : Addr) : (s.setStack k a).v = s.v := by rfl
@[simp] theorem i_setStack (k : Nibble) (a : Addr) : (s.setStack k a).i = s.i := by rfl
@[simp] theorem pc_setStack (k : Nibble) (a : Addr) : (s.setStack k a).pc = s.pc := by rfl
@[simp] theorem sp_setStack (k : Nibble) (a : Addr) : (s.setStack k a).sp = s.sp := by rfl
@[simp] theorem stack_setStack (k : Nibble) (a : Addr) : (s.setStack k a).stack = s.stack.set k.toNat a k.isLt := by rfl
@[simp] theorem dt_setStack (k : Nibble) (a : Addr) : (s.setStack k a).dt = s.dt := by rfl
@[simp] theorem st_setStack (k : Nibble) (a : Addr) : (s.setStack k a).st = s.st := by rfl
@[simp] theorem mem_setStack (k : Nibble) (a : Addr) : (s.setStack k a).mem = s.mem := by rfl
@[simp] theorem fb_setStack (k : Nibble) (a : Addr) : (s.setStack k a).fb = s.fb := by rfl
@[simp] theorem keys_setStack (k : Nibble) (a : Addr) : (s.setStack k a).keys = s.keys := by rfl
@[simp] theorem run_setStack (k : Nibble) (a : Addr) : (s.setStack k a).run = s.run := by rfl
@[simp] theorem font_setStack (k : Nibble) (a : Addr) : (s.setStack k a).font = s.font := by rfl
@[simp] theorem cyclesPerFrame_setStack (k : Nibble) (a : Addr) : (s.setStack k a).cyclesPerFrame = s.cyclesPerFrame := by rfl
@[simp] theorem rnd_setStack (k : Nibble) (a : Addr) : (s.setStack k a).rnd = s.rnd := by rfl
@[simp] theorem draws_setStack (k : Nibble) (a : Addr) : (s.setStack k a).draws = s.draws := by rfl
@[simp] theorem events_setStack (k : Nibble) (a : Addr) : (s.setStack k a).events = s.events := by rfl
@[simp] theorem host_setStack (k : Nibble) (a : Addr) : (s.setStack k a).host = s.host := by rfl
@[simp] theorem getV_setStack (k : Nibble) (a : Addr) (y : Nibble) : (s.setStack k a).getV y = s.getV y := by rfl
@[simp] theorem memRead_setStack (k : Nibble) (a : Addr) (n : Nat) : (s.setStack k a).memRead n = s.memRead n := by rfl
@[simp] theorem isPressed_setStack (k : Nibble) (a : Addr) (n : Nat) : (s.setStack k a).isPressed n = s.isPressed n := by rfl
@[simp] theorem ea_setStack (k : Nibble) (a : Addr) (n : Nat) : (s.setStack k a).ea n = s.ea n := by rfl
@[simp] theorem drawn_setStack (k : Nibble) (a : Addr) : (s.setStack k a).drawn = s.drawn := by rfl

/-! ### setDt -/

@[simp] theorem v_setDt (b : Byte) : (s.setDt b).v = s.v := by rfl
@[simp] theorem i_setDt (b : Byte) : (s.setDt b).i = s.i := by rfl
@[simp] theorem pc_setDt (b : Byte) : (s.setDt b).pc = s.pc := by rfl
@[simp] theorem sp_setDt (b : Byte) : (s.setDt b).sp = s.sp := by rfl
@[simp] theorem stack_setDt (b : Byte) : (s.setDt b).stack = s.stack := by rfl
@[simp] theorem dt_setDt (b : Byte) : (s.setDt b).dt = b := by rfl
@[simp] theorem st_setDt (b : Byte) : (s.setDt b).st = s.st := by rfl
@[simp] theorem mem_setDt (b : Byte) : (s.setDt b).mem = s.mem := by rfl
@[simp] theorem fb_setDt (b : Byte) : (s.setDt b).fb = s.fb := by rfl
@[simp] theorem keys_setDt (b : Byte) : (s.setDt b).keys = s.keys := by rfl
@[simp] theorem run_setDt (b : Byte) : (s.setDt b).run = s.run := by rfl
@[simp] theorem font_setDt (b : Byte) : (s.setDt b).font = s.font := by rfl
@[simp] theorem cyclesPerFrame_setDt (b : Byte) : (s.setDt b).cyclesPerFrame = s.cyclesPerFrame := by rfl
@[simp] theorem rnd_setDt (b : Byte) : (s.setDt b).rnd = s.rnd := by rfl
@[simp] theorem draws_setDt (b : Byte) : (s.setDt b).draws = s.draws := by rfl
@[simp] theorem events_setDt (b : Byte) : (s.setDt b).events = s.events := by rfl
@[simp] theorem host_setDt (b : Byte) : (s.setDt b).host = s.host := by rfl
@[simp] theorem getV_setDt (b : Byte) (y : Nibble) : (s.setDt b).getV y = s.getV y := by rfl
@[simp] theorem getStack_setDt (b : Byte) (j : Nibble) : (s.setDt b).getStack j = s.getStack j := by rfl
@[simp] theorem memRead_setDt (b : Byte) (n : Nat) : (s.setDt b).memRead n = s.memRead n := by rfl
@[simp] theorem isPressed_setDt (b : Byte) (n : Nat) : (s.setDt b).isPressed n = s.isPressed n := by rfl
@[simp] theorem ea_setDt (b : Byte) (n : Nat) : (s.setDt b).ea n = s.ea n := by rfl
@[simp] theorem drawn_setDt (b : Byte) : (s.setDt b).drawn = s.drawn := by rfl

/-! ### setSt -/

@[simp] theorem v_setSt (b : Byte) : (s.setSt b).v = s.v := by rfl
@[simp] theorem i_setSt (b : Byte) : (s.setSt b).i = s.i := by rfl
@[simp] theorem pc_setSt (b : Byte) : (s.setSt b).pc = s.pc := by rfl
@[simp] theorem sp_setSt (b : Byte) : (s.setSt b).sp = s.sp := by rfl
@[simp] theorem stack_setSt (b : Byte) : (s.setSt b).stack = s.stack := by rfl
@[simp] theorem dt_setSt (b : Byte) : (s.setSt b).dt = s.dt := by rfl
@[simp] theorem st_setSt (b : Byte) : (s.setSt b).st = b := by rfl
@[simp] theorem mem_setSt (b : Byte) : (s.setSt b).mem = s.mem := by rfl
@[simp] theorem fb_setSt (b : Byte) : (s.setSt b).fb = s.fb := by rfl
@[simp] theorem keys_setSt (b : Byte) : (s.setSt b).keys = s.keys := by rfl
@[simp] theorem run_setSt (b : Byte) : (s.setSt b).run = s.run := by rfl
@[simp] theorem font_setSt (b : Byte) : (s.setSt b).font = s.font := by rfl
@[simp] theorem cyclesPerFrame_setSt (b : Byte) : (s.setSt b).cyclesPerFrame = s.cyclesPerFrame := by rfl
@[simp] theorem rnd_setSt (b : Byte) : (s.setSt b).rnd = s.rnd := by rfl
@[simp] theorem draws_setSt (b : Byte) : (s.setSt b).draws = s.draws := by rfl
@[simp] theorem events_setSt (b : Byte) : (s.setSt b).events = s.events := by rfl
@[simp] theorem host_setSt (b : Byte) : (s.setSt b).host = s.host := by rfl
@[simp] theorem getV_setSt (b : Byte) (y : Nibble) : (s.setSt b).getV y = s.getV y := by rfl
@[simp] theorem getStack_setSt (b : Byte) (j : Nibble) : (s.setSt b).getStack j = s.getStack j := by rfl
@[simp] theorem memRead_setSt (b : Byte) (n : Nat) : (s.setSt b).memRead n = s.memRead n := by rfl
@[simp] theorem isPressed_setSt (b : Byte) (n : Nat) : (s.setSt b).isPressed n = s.isPressed n := by rfl
@[simp] theorem ea_setSt (b : Byte) (n : Nat) : (s.setSt b).ea n = s.ea n := by rfl
@[simp] theorem drawn_setSt (b : Byte) : (s.setSt b).drawn = s.drawn := by rfl

/-! ### setMem -/

@[simp] theorem v_setMem (m : Memory) : (s.setMem m).v = s.v := by rfl
@[simp] theorem i_setMem (m : Memory) : (s.setMem m).i = s.i := by rfl
@[simp] theorem pc_setMem (m : Memory) : (s.setMem m).pc = s.pc := by rfl
@[simp] theorem sp_setMem (m : Memory) : (s.setMem m).sp = s.sp := by rfl
@[simp] theorem stack_setMem (m : Memory) : (s.setMem m).stack = s.stack := by rfl
@[simp] theorem dt_setMem (m : Memory) : (s.setMem m).dt = s.dt := by rfl
@[simp] theorem st_setMem (m : Memory) : (s.setMem m).st = s.st := by rfl
@[simp] theorem mem_setMem (m : Memory) : (s.setMem m).mem = m := by rfl
@[simp] theorem fb_setMem (m : Memory) : (s.setMem m).fb = s.fb := by rfl
@[simp] theorem keys_setMem (m : Memory) : (s.setMem m).keys = s.keys := by rfl
@[simp] theorem run_setMem (m : Memory) : (s.setMem m).run = s.run := by rfl
@[simp] theorem font_setMem (m : Memory) : (s.setMem m).font = s.font := by rfl
@[simp] theorem cyclesPerFrame_setMem (m : Memory) : (s.setMem m).cyclesPerFrame = s.cyclesPerFrame := by rfl
@[simp] theorem rnd_setMem (m : Memory) : (s.setMem m).rnd = s.rnd := by rfl
@[simp] theorem draws_setMem (m : Memory) : (s.setMem m).draws = s.draws := by rfl
@[simp] theorem events_setMem (m : Memory) : (s.setMem m).events = s.events := by rfl
@[simp] theorem host_setMem (m : Memory) : (s.setMem m).host = s.host := by rfl
@[simp] theorem getV_setMem (m : Memory) (y : Nibble) : (s.setMem m).getV y = s.getV y := by rfl
@[simp] theorem getStack_setMem (m : Memory) (j : Nibble) : (s.setMem m).getStack j = s.getStack j := by rfl
@[simp] theorem isPressed_setMem (m : Memory) (n : Nat) : (s.setMem m).isPressed n = s.isPressed n := by rfl
@[simp] theorem ea_setMem (m : Memory) (n : Nat) : (s.setMem m).ea n = s.ea n := by rfl
@[simp] theorem drawn_setMem (m : Memory) : (s.setMem m).drawn = s.drawn := by rfl

/-! ### setFb -/

@[simp] theorem v_setFb (g : Grid) : (s.setFb g).v = s.v := by rfl
@[simp] theorem i_setFb (g : Grid) : (s.setFb g).i = s.i := by rfl
@[simp] theorem pc_setFb (g : Grid) : (s.setFb g).pc = s.pc := by rfl
@[simp] theorem sp_setFb (g : Grid) : (s.setFb g).sp = s.sp := by rfl
@[simp] theorem stack_setFb (g : Grid) : (s.setFb g).stack = s.stack := by rfl
@[simp] theorem dt_setFb (g : Grid) : (s.setFb g).dt = s.dt := by rfl
@[simp] theorem st_setFb (g : Grid) : (s.setFb g).st = s.st := by rfl
@[simp] theorem mem_setFb (g : Grid) : (s.setFb g).mem = s.mem := by rfl
@[simp] theorem fb_setFb (g : Grid) : (s.setFb g).fb = g := by rfl
@[simp] theorem keys_setFb (g : Grid) : (s.setFb g).keys = s.keys := by rfl
@[simp] theorem run_setFb (g : Grid) : (s.setFb g).run = s.run := by rfl
@[simp] theorem font_setFb (g : Grid) : (s.setFb g).font = s.font := by rfl
@[simp] theorem cyclesPerFrame_setFb (g : Grid) : (s.setFb g).cyclesPerFrame = s.cyclesPerFrame := by rfl
@[simp] theorem rnd_setFb (g : Grid) : (s.setFb g).rnd = s.rnd := by rfl
@[simp] theorem draws_setFb (g : Grid) : (s.setFb g).draws = s.draws := by rfl
@[simp] theorem events_setFb (g : Grid) : (s.setFb g).events = s.events := by rfl
@[simp] theorem host_setFb (g : Grid) : (s.setFb g).host = s.host := by rfl
@[simp] theorem getV_setFb (g : Grid) (y : Nibble) : (s.setFb g).getV y = s.getV y := by rfl
@[simp] theorem getStack_setFb (g : Grid) (j : Nibble) : (s.setFb g).getStack j = s.getStack j := by rfl
@[simp] theorem memRead_setFb (g : Grid) (n : Nat) : (s.setFb g).memRead n = s.memRead n := by rfl
@[simp] theorem isPressed_setFb (g : Grid) (n : Nat) : (s.setFb g).isPressed n = s.isPressed n := by rfl
@[simp] theorem ea_setFb (g : Grid) (n : Nat) : (s.setFb g).ea n = s.ea n := by rfl
@[simp] theorem drawn_setFb (g : Grid) : (s.setFb g).drawn = s.drawn := by rfl

/-! ### setKeys -/

@[simp] theorem v_setKeys (k : Vector Bool Config.nKeys) : (s.setKeys k).v = s.v := by rfl
@[simp] theorem i_setKeys (k : Vector Bool Config.nKeys) : (s.setKeys k).i = s.i := by rfl
@[simp] theorem pc_setKeys (k : Vector Bool Config.nKeys) : (s.setKeys k).pc = s.pc := by rfl
@[simp] theorem sp_setKeys (k : Vector Bool Config.nKeys) : (s.setKeys k).sp = s.sp := by rfl
@[simp] theorem stack_setKeys (k : Vector Bool Config.nKeys) : (s.setKeys k).stack = s.stack := by rfl
@[simp] theorem dt_setKeys (k : Vector Bool Config.nKeys) : (s.setKeys k).dt = s.dt := by rfl
@[simp] theorem st_setKeys (k : Vector Bool Config.nKeys) : (s.setKeys k).st = s.st := by rfl
@[simp] theorem mem_setKeys (k : Vector Bool Config.nKeys) : (s.setKeys k).mem = s.mem := by rfl
@[simp] theorem fb_setKeys (k : Vector Bool Config.nKeys) : (s.setKeys k).fb = s.fb := by rfl
@[simp] theorem keys_setKeys (k : Vector Bool Config.nKeys) : (s.setKeys k).keys = k := by rfl
@[simp] theorem run_setKeys (k : Vector Bool Config.nKeys) : (s.setKeys k).run = s.run := by rfl
@[simp] theorem font_setKeys (k : Vector Bool Config.nKeys) : (s.setKeys k).font = s.font := by rfl
@[simp] theorem cyclesPerFrame_setKeys (k : Vector Bool Config.nKeys) : (s.setKeys k).cyclesPerFrame = s.cyclesPerFrame := by rfl
@[simp] theorem rnd_setKeys (k : Vector Bool Config.nKeys) : (s.setKeys k).rnd = s.rnd := by rfl
@[simp] theorem draws_setKeys (k : Vector Bool Config.nKeys) : (s.setKeys k).draws = s.draws := by rfl
@[simp] theorem events_setKeys (k : Vector Bool Config.nKeys) : (s.setKeys k).events = s.events := by rfl
@[simp] theorem host_setKeys (k : Vector Bool Config.nKeys) : (s.setKeys k).host = s.host := by rfl
@[simp] theorem getV_setKeys (k : Vector Bool Config.nKeys) (y : Nibble) : (s.setKeys k).getV y = s.getV y := by rfl
@[simp] theorem getStack_setKeys (k : Vector Bool Config.nKeys) (j : Nibble) : (s.setKeys k).getStack j = s.getStack j := by rfl
@[simp] theorem memRead_setKeys (k : Vector Bool Config.nKeys) (n : Nat) : (s.setKeys k).memRead n = s.memRead n := by rfl
@[simp] theorem ea_setKeys (k : Vector Bool Config.nKeys) (n : Nat) : (s.setKeys k).ea n = s.ea n := by rfl
@[simp] theorem drawn_setKeys (k : Vector Bool Config.nKeys) : (s.setKeys k).drawn = s.drawn := by rfl

/-! ### setRun -/

@[simp] theorem v_setRun (b : Bool) : (s.setRun b).v = s.v := by rfl
@[simp] theorem i_setRun (b : Bool) : (s.setRun b).i = s.i := by rfl
@[simp] theorem pc_setRun (b : Bool) : (s.setRun b).pc = s.pc := by rfl
@[simp] theorem sp_setRun (b : Bool) : (s.setRun b).sp = s.sp := by rfl
@[simp] theorem stack_setRun (b : Bool) : (s.setRun b).stack = s.stack := by rfl
@[simp] theorem dt_setRun (b : Bool) : (s.setRun b).dt = s.dt := by rfl
@[simp] theorem st_setRun (b : Bool) : (s.setRun b).st = s.st := by rfl
@[simp] theorem mem_setRun (b : Bool) : (s.setRun b).mem = s.mem := by rfl
@[simp] theorem fb_setRun (b : Bool) : (s.setRun b).fb = s.fb := by rfl
@[simp] theorem keys_setRun (b : Bool) : (s.setRun b).keys = s.keys := by rfl
@[simp] theorem run_setRun (b : Bool) : (s.setRun b).run = b := by rfl
@[simp] theorem font_setRun (b : Bool) : (s.setRun b).font = s.font := by rfl
@[simp] theorem cyclesPerFrame_setRun (b : Bool) : (s.setRun b).cyclesPerFrame = s.cyclesPerFrame := by rfl
@[simp] theorem rnd_setRun (b : Bool) : (s.setRun b).rnd = s.rnd := by rfl
@[simp] theorem draws_setRun (b : Bool) : (s.setRun b).draws = s.draws := by rfl
@[simp] theorem events_setRun (b : Bool) : (s.setRun b).events = s.events := by rfl
@[simp] theorem host_setRun (b : Bool) : (s.setRun b).host = s.host := by rfl
@[simp] theorem getV_setRun (b : Bool) (y : Nibble) : (s.setRun b).getV y = s.getV y := by rfl
@[simp] theorem getStack_setRun (b : Bool) (j : Nibble) : (s.setRun b).getStack j = s.getStack j := by rfl
@[simp] theorem memRead_setRun (b : Bool) (n : Nat) : (s.setRun b).memRead n = s.memRead n := by rfl
@[simp] theorem isPressed_setRun (b : Bool) (n : Nat) : (s.setRun b).isPressed n = s.isPressed n := by rfl
@[simp] theorem ea_setRun (b : Bool) (n : Nat) : (s.setRun b).ea n = s.ea n := by rfl
@[simp] theorem drawn_setRun (b : Bool) : (s.setRun b).drawn = s.drawn := by rfl

/-! ### setHost -/

@[simp] theorem v_setHost (cs : List Command) : (s.setHost cs).v = s.v := by rfl
@[simp] theorem i_setHost (cs : List Command) : (s.setHost cs).i = s.i := by rfl
@[simp] theorem pc_setHost (cs : List Command) : (s.setHost cs).pc = s.pc := by rfl
@[simp] theorem sp_setHost (cs : List Command) : (s.setHost cs).sp = s.sp := by rfl
@[simp] theorem stack_setHost (cs : List Command) : (s.setHost cs).stack = s.stack := by rfl
@[simp] theorem dt_setHost (cs : List Command) : (s.setHost cs).dt = s.dt := by rfl
@[simp] theorem st_setHost (cs : List Command) : (s.setHost cs).st = s.st := by rfl
@[simp] theorem mem_setHost (cs : List Command) : (s.setHost cs).mem = s.mem := by rfl
@[simp] theorem fb_setHost (cs : List Command) : (s.setHost cs).fb = s.fb := by rfl
@[simp] theorem keys_setHost (cs : List Command) : (s.setHost cs).keys = s.keys := by rfl
@[simp] theorem run_setHost (cs : List Command) : (s.setHost cs).run = s.run := by rfl
@[simp] theorem font_setHost (cs : List Command) : (s.setHost cs).font = s.font := by rfl
@[simp] theorem cyclesPerFrame_setHost (cs : List Command) : (s.setHost cs).cyclesPerFrame = s.cyclesPerFrame := by rfl
@[simp] theorem rnd_setHost (cs : List Command) : (s.setHost cs).rnd = s.rnd := by rfl
@[simp] theorem draws_setHost (cs : List Command) : (s.setHost cs).draws = s.draws := by rfl
@[simp] theorem events_setHost (cs : List Command) : (s.setHost cs).events = s.events := by rfl
@[simp] theorem host_setHost (cs : List Command) : (s.setHost cs).host = cs := by rfl
@[simp] theorem getV_setHost (cs : List Command) (y : Nibble) : (s.setHost cs).getV y = s.getV y := by rfl
@[simp] theorem getStack_setHost (cs : List Command) (j : Nibble) : (s.setHost cs).getStack j = s.getStack j := by rfl
@[simp] theorem memRead_setHost (cs : List Command) (n : Nat) : (s.setHost cs).memRead n = s.memRead n := by rfl
@[simp] theorem isPressed_setHost (cs : List Command) (n : Nat) : (s.setHost cs).isPressed n = s.isPressed n := by rfl
@[simp] theorem ea_setHost (cs : List Command) (n : Nat) : (s.setHost cs).ea n = s.ea n := by rfl
@[simp] theorem drawn_setHost (cs : List Command) : (s.setHost cs).drawn = s.drawn := by rfl

/-! ### emit -/

@[simp] theorem v_emit (e : Event) : (s.emit e).v = s.v := by rfl
@[simp] theorem i_emit (e : Event) : (s.emit e).i = s.i := by rfl
@[simp] theorem pc_emit (e : Event) : (s.emit e).pc = s.pc := by rfl
@[simp] theorem sp_emit (e : Event) : (s.emit e).sp = s.sp := by rfl
@[simp] theorem stack_emit (e : Event) : (s.emit e).stack = s.stack := by rfl
@[simp] theorem dt_emit (e : Event) : (s.emit e).dt = s.dt := by rfl
@[simp] theorem st_emit (e : Event) : (s.emit e).st = s.st := by rfl
@[simp] theorem mem_emit (e : Event) : (s.emit e).mem = s.mem := by rfl
@[simp] theorem fb_emit (e : Event) : (s.emit e).fb = s.fb := by rfl
@[simp] theorem keys_emit (e : Event) : (s.emit e).keys = s.keys := by rfl
@[simp] theorem run_emit (e : Event) : (s.emit e).run = s.run := by rfl
@[simp] theorem font_emit (e : Event) : (s.emit e).font = s.font := by rfl
@[simp] theorem cyclesPerFrame_emit (e : Event) : (s.emit e).cyclesPerFrame = s.cyclesPerFrame := by rfl
@[simp] theorem rnd_emit (e : Event) : (s.emit e).rnd = s.rnd := by rfl
@[simp] theorem draws_emit (e : Event) : (s.emit e).draws = s.draws := by rfl
@[simp] theorem events_emit (e : Event) : (s.emit e).events = s.events ++ [e] := by rfl
@[simp] theorem host_emit (e : Event) : (s.emit e).host = s.host := by rfl
@[simp] theorem getV_emit (e : Event) (y : Nibble) : (s.emit e).getV y = s.getV y := by rfl
@[simp] theorem getStack_emit (e : Event) (j : Nibble) : (s.emit e).getStack j = s.getStack j := by rfl
@[simp] theorem memRead_emit (e : Event) (n : Nat) : (s.emit e).memRead n = s.memRead n := by rfl
@[simp] theorem isPressed_emit (e : Event) (n : Nat) : (s.emit e).isPressed n = s.isPressed n := by rfl
@[simp] theorem ea_emit (e : Event) (n : Nat) : (s.emit e).ea n = s.ea n := by rfl
@[simp] theorem drawn_emit (e : Event) : (s.emit e).drawn = s.drawn := by rfl

/-! ### afterDraw -/

@[simp] theorem v_afterDraw : s.afterDraw.v = s.v := by rfl
@[simp] theorem i_afterDraw : s.afterDraw.i = s.i := by rfl
@[simp] theorem pc_afterDraw : s.afterDraw.pc = s.pc := by rfl
@[simp] theorem sp_afterDraw : s.afterDraw.sp = s.sp := by rfl
@[simp] theorem stack_afterDraw : s.afterDraw.stack = s.stack := by rfl
@[simp] theorem dt_afterDraw : s.afterDraw.dt = s.dt := by rfl
@[simp] theorem st_afterDraw : s.afterDraw.st = s.st := by rfl
@[simp] theorem mem_afterDraw : s.afterDraw.mem = s.mem := by rfl
@[simp] theorem fb_afterDraw : s.afterDraw.fb = s.fb := by rfl
@[simp] theorem keys_afterDraw : s.afterDraw.keys = s.keys := by rfl
@[simp] theorem run_afterDraw : s.afterDraw.run = s.run := by rfl
@[simp] theorem font_afterDraw : s.afterDraw.font = s.font := by rfl
@[simp] theorem cyclesPerFrame_afterDraw : s.afterDraw.cyclesPerFrame = s.cyclesPerFrame := by rfl
@[simp] theorem rnd_afterDraw : s.afterDraw.rnd = s.rnd.tail := by rfl
@[simp] theorem draws_afterDraw : s.afterDraw.draws = s.draws + 1 := by rfl
@[simp] theorem events_afterDraw : s.afterDraw.events = s.events := by rfl
@[simp] theorem host_afterDraw : s.afterDraw.host = s.host := by rfl
@[simp] theorem getV_afterDraw (y : Nibble) : s.afterDraw.getV y = s.getV y := by rfl
@[simp] theorem getStack_afterDraw (j : Nibble) : s.afterDraw.getStack j = s.getStack j := by rfl
@[simp] theorem memRead_afterDraw (n : Nat) : s.afterDraw.memRead n = s.memRead n := by rfl
@[simp] theorem isPressed_afterDraw (n : Nat) : s.afterDraw.isPressed n = s.isPressed n := by rfl
@[simp] theorem ea_afterDraw (n : Nat) : s.afterDraw.ea n = s.ea n := by rfl

end Sys2Proof.Machine.State
end

