-- ==== Sys2Proof/Laws/Frames.lean ====
section
/-! SUPPORT. The frames of the shared operations: one lemma per operation and per field or view that the
operation leaves alone, so that later proofs unfold none of them. -/

namespace Sys2Proof.Machine.State

variable (s : State)

/-! ### memWrite -/

@[simp] theorem v_memWrite (a : Nat) (b : Byte) : (s.memWrite a b).v = s.v := by rfl
@[simp] theorem i_memWrite (a : Nat) (b : Byte) : (s.memWrite a b).i = s.i := by rfl
@[simp] theorem pc_memWrite (a : Nat) (b : Byte) : (s.memWrite a b).pc = s.pc := by rfl
@[simp] theorem sp_memWrite (a : Nat) (b : Byte) : (s.memWrite a b).sp = s.sp := by rfl
@[simp] theorem stack_memWrite (a : Nat) (b : Byte) : (s.memWrite a b).stack = s.stack := by rfl
@[simp] theorem dt_memWrite (a : Nat) (b : Byte) : (s.memWrite a b).dt = s.dt := by rfl
@[simp] theorem st_memWrite (a : Nat) (b : Byte) : (s.memWrite a b).st = s.st := by rfl
@[simp] theorem fb_memWrite (a : Nat) (b : Byte) : (s.memWrite a b).fb = s.fb := by rfl
@[simp] theorem keys_memWrite (a : Nat) (b : Byte) : (s.memWrite a b).keys = s.keys := by rfl
@[simp] theorem run_memWrite (a : Nat) (b : Byte) : (s.memWrite a b).run = s.run := by rfl
@[simp] theorem font_memWrite (a : Nat) (b : Byte) : (s.memWrite a b).font = s.font := by rfl
@[simp] theorem cyclesPerFrame_memWrite (a : Nat) (b : Byte) : (s.memWrite a b).cyclesPerFrame = s.cyclesPerFrame := by rfl
@[simp] theorem rnd_memWrite (a : Nat) (b : Byte) : (s.memWrite a b).rnd = s.rnd := by rfl
@[simp] theorem draws_memWrite (a : Nat) (b : Byte) : (s.memWrite a b).draws = s.draws := by rfl
@[simp] theorem events_memWrite (a : Nat) (b : Byte) : (s.memWrite a b).events = s.events := by rfl
@[simp] theorem host_memWrite (a : Nat) (b : Byte) : (s.memWrite a b).host = s.host := by rfl
@[simp] theorem getV_memWrite (a : Nat) (b : Byte) (y : Nibble) : (s.memWrite a b).getV y = s.getV y := by rfl
@[simp] theorem getStack_memWrite (a : Nat) (b : Byte) (j : Nibble) : (s.memWrite a b).getStack j = s.getStack j := by rfl
@[simp] theorem isPressed_memWrite (a : Nat) (b : Byte) (n : Nat) : (s.memWrite a b).isPressed n = s.isPressed n := by rfl
@[simp] theorem ea_memWrite (a : Nat) (b : Byte) (n : Nat) : (s.memWrite a b).ea n = s.ea n := by rfl
@[simp] theorem drawn_memWrite (a : Nat) (b : Byte) : (s.memWrite a b).drawn = s.drawn := by rfl

/-! ### advance -/

@[simp] theorem pc_advance : s.advance.pc = s.pc + 2 := by rfl
@[simp] theorem v_advance : s.advance.v = s.v := by rfl
@[simp] theorem i_advance : s.advance.i = s.i := by rfl
@[simp] theorem sp_advance : s.advance.sp = s.sp := by rfl
@[simp] theorem stack_advance : s.advance.stack = s.stack := by rfl
@[simp] theorem dt_advance : s.advance.dt = s.dt := by rfl
@[simp] theorem st_advance : s.advance.st = s.st := by rfl
@[simp] theorem mem_advance : s.advance.mem = s.mem := by rfl
@[simp] theorem fb_advance : s.advance.fb = s.fb := by rfl
@[simp] theorem keys_advance : s.advance.keys = s.keys := by rfl
@[simp] theorem run_advance : s.advance.run = s.run := by rfl
@[simp] theorem font_advance : s.advance.font = s.font := by rfl
@[simp] theorem cyclesPerFrame_advance : s.advance.cyclesPerFrame = s.cyclesPerFrame := by rfl
@[simp] theorem rnd_advance : s.advance.rnd = s.rnd := by rfl
@[simp] theorem draws_advance : s.advance.draws = s.draws := by rfl
@[simp] theorem events_advance : s.advance.events = s.events := by rfl
@[simp] theorem host_advance : s.advance.host = s.host := by rfl
@[simp] theorem getV_advance (y : Nibble) : s.advance.getV y = s.getV y := by rfl
@[simp] theorem getStack_advance (j : Nibble) : s.advance.getStack j = s.getStack j := by rfl
@[simp] theorem memRead_advance (n : Nat) : s.advance.memRead n = s.memRead n := by rfl
@[simp] theorem isPressed_advance (n : Nat) : s.advance.isPressed n = s.isPressed n := by rfl
@[simp] theorem ea_advance (n : Nat) : s.advance.ea n = s.ea n := by rfl
@[simp] theorem drawn_advance : s.advance.drawn = s.drawn := by rfl

/-! ### skipIf -/

@[simp] theorem pc_skipIf (c : Bool) : (s.skipIf c).pc = if c then s.pc + 2 else s.pc := by cases c <;> rfl
@[simp] theorem v_skipIf (c : Bool) : (s.skipIf c).v = s.v := by cases c <;> rfl
@[simp] theorem i_skipIf (c : Bool) : (s.skipIf c).i = s.i := by cases c <;> rfl
@[simp] theorem sp_skipIf (c : Bool) : (s.skipIf c).sp = s.sp := by cases c <;> rfl
@[simp] theorem stack_skipIf (c : Bool) : (s.skipIf c).stack = s.stack := by cases c <;> rfl
@[simp] theorem dt_skipIf (c : Bool) : (s.skipIf c).dt = s.dt := by cases c <;> rfl
@[simp] theorem st_skipIf (c : Bool) : (s.skipIf c).st = s.st := by cases c <;> rfl
@[simp] theorem mem_skipIf (c : Bool) : (s.skipIf c).mem = s.mem := by cases c <;> rfl
@[simp] theorem fb_skipIf (c : Bool) : (s.skipIf c).fb = s.fb := by cases c <;> rfl
@[simp] theorem keys_skipIf (c : Bool) : (s.skipIf c).keys = s.keys := by cases c <;> rfl
@[simp] theorem run_skipIf (c : Bool) : (s.skipIf c).run = s.run := by cases c <;> rfl
@[simp] theorem font_skipIf (c : Bool) : (s.skipIf c).font = s.font := by cases c <;> rfl
@[simp] theorem cyclesPerFrame_skipIf (c : Bool) : (s.skipIf c).cyclesPerFrame = s.cyclesPerFrame := by cases c <;> rfl
@[simp] theorem rnd_skipIf (c : Bool) : (s.skipIf c).rnd = s.rnd := by cases c <;> rfl
@[simp] theorem draws_skipIf (c : Bool) : (s.skipIf c).draws = s.draws := by cases c <;> rfl
@[simp] theorem events_skipIf (c : Bool) : (s.skipIf c).events = s.events := by cases c <;> rfl
@[simp] theorem host_skipIf (c : Bool) : (s.skipIf c).host = s.host := by cases c <;> rfl
@[simp] theorem getV_skipIf (c : Bool) (y : Nibble) : (s.skipIf c).getV y = s.getV y := by cases c <;> rfl
@[simp] theorem getStack_skipIf (c : Bool) (j : Nibble) : (s.skipIf c).getStack j = s.getStack j := by cases c <;> rfl
@[simp] theorem memRead_skipIf (c : Bool) (n : Nat) : (s.skipIf c).memRead n = s.memRead n := by cases c <;> rfl
@[simp] theorem isPressed_skipIf (c : Bool) (n : Nat) : (s.skipIf c).isPressed n = s.isPressed n := by cases c <;> rfl
@[simp] theorem ea_skipIf (c : Bool) (n : Nat) : (s.skipIf c).ea n = s.ea n := by cases c <;> rfl
@[simp] theorem drawn_skipIf (c : Bool) : (s.skipIf c).drawn = s.drawn := by cases c <;> rfl

/-! ### push -/

@[simp] theorem sp_push (a : Addr) : (s.push a).sp = s.sp + 1 := by rfl
@[simp] theorem v_push (a : Addr) : (s.push a).v = s.v := by rfl
@[simp] theorem i_push (a : Addr) : (s.push a).i = s.i := by rfl
@[simp] theorem pc_push (a : Addr) : (s.push a).pc = s.pc := by rfl
@[simp] theorem dt_push (a : Addr) : (s.push a).dt = s.dt := by rfl
@[simp] theorem st_push (a : Addr) : (s.push a).st = s.st := by rfl
@[simp] theorem mem_push (a : Addr) : (s.push a).mem = s.mem := by rfl
@[simp] theorem fb_push (a : Addr) : (s.push a).fb = s.fb := by rfl
@[simp] theorem keys_push (a : Addr) : (s.push a).keys = s.keys := by rfl
@[simp] theorem run_push (a : Addr) : (s.push a).run = s.run := by rfl
@[simp] theorem font_push (a : Addr) : (s.push a).font = s.font := by rfl
@[simp] theorem cyclesPerFrame_push (a : Addr) : (s.push a).cyclesPerFrame = s.cyclesPerFrame := by rfl
@[simp] theorem rnd_push (a : Addr) : (s.push a).rnd = s.rnd := by rfl
@[simp] theorem draws_push (a : Addr) : (s.push a).draws = s.draws := by rfl
@[simp] theorem events_push (a : Addr) : (s.push a).events = s.events := by rfl
@[simp] theorem host_push (a : Addr) : (s.push a).host = s.host := by rfl
@[simp] theorem getV_push (a : Addr) (y : Nibble) : (s.push a).getV y = s.getV y := by rfl
@[simp] theorem memRead_push (a : Addr) (n : Nat) : (s.push a).memRead n = s.memRead n := by rfl
@[simp] theorem isPressed_push (a : Addr) (n : Nat) : (s.push a).isPressed n = s.isPressed n := by rfl
@[simp] theorem ea_push (a : Addr) (n : Nat) : (s.push a).ea n = s.ea n := by rfl
@[simp] theorem drawn_push (a : Addr) : (s.push a).drawn = s.drawn := by rfl

/-! ### pop -/

@[simp] theorem sp_pop : s.pop.sp = s.sp - 1 := by rfl
@[simp] theorem v_pop : s.pop.v = s.v := by rfl
@[simp] theorem i_pop : s.pop.i = s.i := by rfl
@[simp] theorem pc_pop : s.pop.pc = s.pc := by rfl
@[simp] theorem stack_pop : s.pop.stack = s.stack := by rfl
@[simp] theorem dt_pop : s.pop.dt = s.dt := by rfl
@[simp] theorem st_pop : s.pop.st = s.st := by rfl
@[simp] theorem mem_pop : s.pop.mem = s.mem := by rfl
@[simp] theorem fb_pop : s.pop.fb = s.fb := by rfl
@[simp] theorem keys_pop : s.pop.keys = s.keys := by rfl
@[simp] theorem run_pop : s.pop.run = s.run := by rfl
@[simp] theorem font_pop : s.pop.font = s.font := by rfl
@[simp] theorem cyclesPerFrame_pop : s.pop.cyclesPerFrame = s.cyclesPerFrame := by rfl
@[simp] theorem rnd_pop : s.pop.rnd = s.rnd := by rfl
@[simp] theorem draws_pop : s.pop.draws = s.draws := by rfl
@[simp] theorem events_pop : s.pop.events = s.events := by rfl
@[simp] theorem host_pop : s.pop.host = s.host := by rfl
@[simp] theorem getV_pop (y : Nibble) : s.pop.getV y = s.getV y := by rfl
@[simp] theorem getStack_pop (j : Nibble) : s.pop.getStack j = s.getStack j := by rfl
@[simp] theorem memRead_pop (n : Nat) : s.pop.memRead n = s.memRead n := by rfl
@[simp] theorem isPressed_pop (n : Nat) : s.pop.isPressed n = s.isPressed n := by rfl
@[simp] theorem ea_pop (n : Nat) : s.pop.ea n = s.ea n := by rfl
@[simp] theorem drawn_pop : s.pop.drawn = s.drawn := by rfl

/-! ### setFlag -/

@[simp] theorem i_setFlag (b : Bool) : (s.setFlag b).i = s.i := by rfl
@[simp] theorem pc_setFlag (b : Bool) : (s.setFlag b).pc = s.pc := by rfl
@[simp] theorem sp_setFlag (b : Bool) : (s.setFlag b).sp = s.sp := by rfl
@[simp] theorem stack_setFlag (b : Bool) : (s.setFlag b).stack = s.stack := by rfl
@[simp] theorem dt_setFlag (b : Bool) : (s.setFlag b).dt = s.dt := by rfl
@[simp] theorem st_setFlag (b : Bool) : (s.setFlag b).st = s.st := by rfl
@[simp] theorem mem_setFlag (b : Bool) : (s.setFlag b).mem = s.mem := by rfl
@[simp] theorem fb_setFlag (b : Bool) : (s.setFlag b).fb = s.fb := by rfl
@[simp] theorem keys_setFlag (b : Bool) : (s.setFlag b).keys = s.keys := by rfl
@[simp] theorem run_setFlag (b : Bool) : (s.setFlag b).run = s.run := by rfl
@[simp] theorem font_setFlag (b : Bool) : (s.setFlag b).font = s.font := by rfl
@[simp] theorem cyclesPerFrame_setFlag (b : Bool) : (s.setFlag b).cyclesPerFrame = s.cyclesPerFrame := by rfl
@[simp] theorem rnd_setFlag (b : Bool) : (s.setFlag b).rnd = s.rnd := by rfl
@[simp] theorem draws_setFlag (b : Bool) : (s.setFlag b).draws = s.draws := by rfl
@[simp] theorem events_setFlag (b : Bool) : (s.setFlag b).events = s.events := by rfl
@[simp] theorem host_setFlag (b : Bool) : (s.setFlag b).host = s.host := by rfl
@[simp] theorem getStack_setFlag (b : Bool) (j : Nibble) : (s.setFlag b).getStack j = s.getStack j := by rfl
@[simp] theorem memRead_setFlag (b : Bool) (n : Nat) : (s.setFlag b).memRead n = s.memRead n := by rfl
@[simp] theorem isPressed_setFlag (b : Bool) (n : Nat) : (s.setFlag b).isPressed n = s.isPressed n := by rfl
@[simp] theorem ea_setFlag (b : Bool) (n : Nat) : (s.setFlag b).ea n = s.ea n := by rfl
@[simp] theorem drawn_setFlag (b : Bool) : (s.setFlag b).drawn = s.drawn := by rfl

/-! ### keepingVF -/

@[simp] theorem i_keepingVF (h : State → State) : (s.keepingVF h).i = (h s).i := by rfl
@[simp] theorem pc_keepingVF (h : State → State) : (s.keepingVF h).pc = (h s).pc := by rfl
@[simp] theorem sp_keepingVF (h : State → State) : (s.keepingVF h).sp = (h s).sp := by rfl
@[simp] theorem stack_keepingVF (h : State → State) : (s.keepingVF h).stack = (h s).stack := by rfl
@[simp] theorem dt_keepingVF (h : State → State) : (s.keepingVF h).dt = (h s).dt := by rfl
@[simp] theorem st_keepingVF (h : State → State) : (s.keepingVF h).st = (h s).st := by rfl
@[simp] theorem mem_keepingVF (h : State → State) : (s.keepingVF h).mem = (h s).mem := by rfl
@[simp] theorem fb_keepingVF (h : State → State) : (s.keepingVF h).fb = (h s).fb := by rfl
@[simp] theorem keys_keepingVF (h : State → State) : (s.keepingVF h).keys = (h s).keys := by rfl
@[simp] theorem run_keepingVF (h : State → State) : (s.keepingVF h).run = (h s).run := by rfl
@[simp] theorem font_keepingVF (h : State → State) : (s.keepingVF h).font = (h s).font := by rfl
@[simp] theorem cyclesPerFrame_keepingVF (h : State → State) : (s.keepingVF h).cyclesPerFrame = (h s).cyclesPerFrame := by rfl
@[simp] theorem rnd_keepingVF (h : State → State) : (s.keepingVF h).rnd = (h s).rnd := by rfl
@[simp] theorem draws_keepingVF (h : State → State) : (s.keepingVF h).draws = (h s).draws := by rfl
@[simp] theorem events_keepingVF (h : State → State) : (s.keepingVF h).events = (h s).events := by rfl
@[simp] theorem host_keepingVF (h : State → State) : (s.keepingVF h).host = (h s).host := by rfl
@[simp] theorem getStack_keepingVF (h : State → State) (j : Nibble) : (s.keepingVF h).getStack j = (h s).getStack j := by rfl
@[simp] theorem memRead_keepingVF (h : State → State) (n : Nat) : (s.keepingVF h).memRead n = (h s).memRead n := by rfl
@[simp] theorem isPressed_keepingVF (h : State → State) (n : Nat) : (s.keepingVF h).isPressed n = (h s).isPressed n := by rfl
@[simp] theorem ea_keepingVF (h : State → State) (n : Nat) : (s.keepingVF h).ea n = (h s).ea n := by rfl
@[simp] theorem drawn_keepingVF (h : State → State) : (s.keepingVF h).drawn = (h s).drawn := by rfl

/-! ### storeFrom -/

/-- A store from EA(k) upward changes memory only. -/
theorem storeFrom_eq (k : Nat) (bytes : List Byte) :
    s.storeFrom k bytes = s.setMem (s.storeFrom k bytes).mem := by
  induction bytes generalizing s k with
  | nil => rfl
  | cons b bytes ih => exact ih ..

@[simp] theorem v_storeFrom (k : Nat) (bytes : List Byte) : (s.storeFrom k bytes).v = s.v := by rw [storeFrom_eq, v_setMem]
@[simp] theorem i_storeFrom (k : Nat) (bytes : List Byte) : (s.storeFrom k bytes).i = s.i := by rw [storeFrom_eq, i_setMem]
@[simp] theorem pc_storeFrom (k : Nat) (bytes : List Byte) : (s.storeFrom k bytes).pc = s.pc := by rw [storeFrom_eq, pc_setMem]
@[simp] theorem sp_storeFrom (k : Nat) (bytes : List Byte) : (s.storeFrom k bytes).sp = s.sp := by rw [storeFrom_eq, sp_setMem]
@[simp] theorem stack_storeFrom (k : Nat) (bytes : List Byte) : (s.storeFrom k bytes).stack = s.stack := by rw [storeFrom_eq, stack_setMem]
@[simp] theorem dt_storeFrom (k : Nat) (bytes : List Byte) : (s.storeFrom k bytes).dt = s.dt := by rw [storeFrom_eq, dt_setMem]
@[simp] theorem st_storeFrom (k : Nat) (bytes : List Byte) : (s.storeFrom k bytes).st = s.st := by rw [storeFrom_eq, st_setMem]
@[simp] theorem fb_storeFrom (k : Nat) (bytes : List Byte) : (s.storeFrom k bytes).fb = s.fb := by rw [storeFrom_eq, fb_setMem]
@[simp] theorem keys_storeFrom (k : Nat) (bytes : List Byte) : (s.storeFrom k bytes).keys = s.keys := by rw [storeFrom_eq, keys_setMem]
@[simp] theorem run_storeFrom (k : Nat) (bytes : List Byte) : (s.storeFrom k bytes).run = s.run := by rw [storeFrom_eq, run_setMem]
@[simp] theorem font_storeFrom (k : Nat) (bytes : List Byte) : (s.storeFrom k bytes).font = s.font := by rw [storeFrom_eq, font_setMem]
@[simp] theorem cyclesPerFrame_storeFrom (k : Nat) (bytes : List Byte) : (s.storeFrom k bytes).cyclesPerFrame = s.cyclesPerFrame := by rw [storeFrom_eq, cyclesPerFrame_setMem]
@[simp] theorem rnd_storeFrom (k : Nat) (bytes : List Byte) : (s.storeFrom k bytes).rnd = s.rnd := by rw [storeFrom_eq, rnd_setMem]
@[simp] theorem draws_storeFrom (k : Nat) (bytes : List Byte) : (s.storeFrom k bytes).draws = s.draws := by rw [storeFrom_eq, draws_setMem]
@[simp] theorem events_storeFrom (k : Nat) (bytes : List Byte) : (s.storeFrom k bytes).events = s.events := by rw [storeFrom_eq, events_setMem]
@[simp] theorem host_storeFrom (k : Nat) (bytes : List Byte) : (s.storeFrom k bytes).host = s.host := by rw [storeFrom_eq, host_setMem]
@[simp] theorem getV_storeFrom (k : Nat) (bytes : List Byte) (y : Nibble) : (s.storeFrom k bytes).getV y = s.getV y := by rw [storeFrom_eq, getV_setMem]
@[simp] theorem getStack_storeFrom (k : Nat) (bytes : List Byte) (j : Nibble) : (s.storeFrom k bytes).getStack j = s.getStack j := by rw [storeFrom_eq, getStack_setMem]
@[simp] theorem isPressed_storeFrom (k : Nat) (bytes : List Byte) (n : Nat) : (s.storeFrom k bytes).isPressed n = s.isPressed n := by rw [storeFrom_eq, isPressed_setMem]
@[simp] theorem ea_storeFrom (k : Nat) (bytes : List Byte) (n : Nat) : (s.storeFrom k bytes).ea n = s.ea n := by rw [storeFrom_eq, ea_setMem]
@[simp] theorem drawn_storeFrom (k : Nat) (bytes : List Byte) : (s.storeFrom k bytes).drawn = s.drawn := by rw [storeFrom_eq, drawn_setMem]

/-! ### loadUpTo -/

@[simp] theorem i_loadUpTo (x : Nibble) : (s.loadUpTo x).i = s.i := by rfl
@[simp] theorem pc_loadUpTo (x : Nibble) : (s.loadUpTo x).pc = s.pc := by rfl
@[simp] theorem sp_loadUpTo (x : Nibble) : (s.loadUpTo x).sp = s.sp := by rfl
@[simp] theorem stack_loadUpTo (x : Nibble) : (s.loadUpTo x).stack = s.stack := by rfl
@[simp] theorem dt_loadUpTo (x : Nibble) : (s.loadUpTo x).dt = s.dt := by rfl
@[simp] theorem st_loadUpTo (x : Nibble) : (s.loadUpTo x).st = s.st := by rfl
@[simp] theorem mem_loadUpTo (x : Nibble) : (s.loadUpTo x).mem = s.mem := by rfl
@[simp] theorem fb_loadUpTo (x : Nibble) : (s.loadUpTo x).fb = s.fb := by rfl
@[simp] theorem keys_loadUpTo (x : Nibble) : (s.loadUpTo x).keys = s.keys := by rfl
@[simp] theorem run_loadUpTo (x : Nibble) : (s.loadUpTo x).run = s.run := by rfl
@[simp] theorem font_loadUpTo (x : Nibble) : (s.loadUpTo x).font = s.font := by rfl
@[simp] theorem cyclesPerFrame_loadUpTo (x : Nibble) : (s.loadUpTo x).cyclesPerFrame = s.cyclesPerFrame := by rfl
@[simp] theorem rnd_loadUpTo (x : Nibble) : (s.loadUpTo x).rnd = s.rnd := by rfl
@[simp] theorem draws_loadUpTo (x : Nibble) : (s.loadUpTo x).draws = s.draws := by rfl
@[simp] theorem events_loadUpTo (x : Nibble) : (s.loadUpTo x).events = s.events := by rfl
@[simp] theorem host_loadUpTo (x : Nibble) : (s.loadUpTo x).host = s.host := by rfl
@[simp] theorem getStack_loadUpTo (x : Nibble) (j : Nibble) : (s.loadUpTo x).getStack j = s.getStack j := by rfl
@[simp] theorem memRead_loadUpTo (x : Nibble) (n : Nat) : (s.loadUpTo x).memRead n = s.memRead n := by rfl
@[simp] theorem isPressed_loadUpTo (x : Nibble) (n : Nat) : (s.loadUpTo x).isPressed n = s.isPressed n := by rfl
@[simp] theorem ea_loadUpTo (x : Nibble) (n : Nat) : (s.loadUpTo x).ea n = s.ea n := by rfl
@[simp] theorem drawn_loadUpTo (x : Nibble) : (s.loadUpTo x).drawn = s.drawn := by rfl

/-! ### raiseUndefinedOpcode -/

@[simp] theorem run_raiseUndefinedOpcode (w : Word) : (s.raiseUndefinedOpcode w).run = false := by rfl
@[simp] theorem events_raiseUndefinedOpcode (w : Word) :
    (s.raiseUndefinedOpcode w).events = s.events ++ [.fatal w] := by rfl
@[simp] theorem v_raiseUndefinedOpcode (w : Word) : (s.raiseUndefinedOpcode w).v = s.v := by rfl
@[simp] theorem i_raiseUndefinedOpcode (w : Word) : (s.raiseUndefinedOpcode w).i = s.i := by rfl
@[simp] theorem pc_raiseUndefinedOpcode (w : Word) : (s.raiseUndefinedOpcode w).pc = s.pc := by rfl
@[simp] theorem sp_raiseUndefinedOpcode (w : Word) : (s.raiseUndefinedOpcode w).sp = s.sp := by rfl
@[simp] theorem stack_raiseUndefinedOpcode (w : Word) : (s.raiseUndefinedOpcode w).stack = s.stack := by rfl
@[simp] theorem dt_raiseUndefinedOpcode (w : Word) : (s.raiseUndefinedOpcode w).dt = s.dt := by rfl
@[simp] theorem st_raiseUndefinedOpcode (w : Word) : (s.raiseUndefinedOpcode w).st = s.st := by rfl
@[simp] theorem mem_raiseUndefinedOpcode (w : Word) : (s.raiseUndefinedOpcode w).mem = s.mem := by rfl
@[simp] theorem fb_raiseUndefinedOpcode (w : Word) : (s.raiseUndefinedOpcode w).fb = s.fb := by rfl
@[simp] theorem keys_raiseUndefinedOpcode (w : Word) : (s.raiseUndefinedOpcode w).keys = s.keys := by rfl
@[simp] theorem font_raiseUndefinedOpcode (w : Word) : (s.raiseUndefinedOpcode w).font = s.font := by rfl
@[simp] theorem cyclesPerFrame_raiseUndefinedOpcode (w : Word) : (s.raiseUndefinedOpcode w).cyclesPerFrame = s.cyclesPerFrame := by rfl
@[simp] theorem rnd_raiseUndefinedOpcode (w : Word) : (s.raiseUndefinedOpcode w).rnd = s.rnd := by rfl
@[simp] theorem draws_raiseUndefinedOpcode (w : Word) : (s.raiseUndefinedOpcode w).draws = s.draws := by rfl
@[simp] theorem host_raiseUndefinedOpcode (w : Word) : (s.raiseUndefinedOpcode w).host = s.host := by rfl
@[simp] theorem getV_raiseUndefinedOpcode (w : Word) (y : Nibble) : (s.raiseUndefinedOpcode w).getV y = s.getV y := by rfl
@[simp] theorem getStack_raiseUndefinedOpcode (w : Word) (j : Nibble) : (s.raiseUndefinedOpcode w).getStack j = s.getStack j := by rfl
@[simp] theorem memRead_raiseUndefinedOpcode (w : Word) (n : Nat) : (s.raiseUndefinedOpcode w).memRead n = s.memRead n := by rfl
@[simp] theorem isPressed_raiseUndefinedOpcode (w : Word) (n : Nat) : (s.raiseUndefinedOpcode w).isPressed n = s.isPressed n := by rfl
@[simp] theorem ea_raiseUndefinedOpcode (w : Word) (n : Nat) : (s.raiseUndefinedOpcode w).ea n = s.ea n := by rfl
@[simp] theorem drawn_raiseUndefinedOpcode (w : Word) : (s.raiseUndefinedOpcode w).drawn = s.drawn := by rfl

/-! ### keyDown -/

@[simp] theorem v_keyDown (id : Nat) : (s.keyDown id).v = s.v := by rfl
@[simp] theorem i_keyDown (id : Nat) : (s.keyDown id).i = s.i := by rfl
@[simp] theorem pc_keyDown (id : Nat) : (s.keyDown id).pc = s.pc := by rfl
@[simp] theorem sp_keyDown (id : Nat) : (s.keyDown id).sp = s.sp := by rfl
@[simp] theorem stack_keyDown (id : Nat) : (s.keyDown id).stack = s.stack := by rfl
@[simp] theorem dt_keyDown (id : Nat) : (s.keyDown id).dt = s.dt := by rfl
@[simp] theorem st_keyDown (id : Nat) : (s.keyDown id).st = s.st := by rfl
@[simp] theorem mem_keyDown (id : Nat) : (s.keyDown id).mem = s.mem := by rfl
@[simp] theorem fb_keyDown (id : Nat) : (s.keyDown id).fb = s.fb := by rfl
@[simp] theorem run_keyDown (id : Nat) : (s.keyDown id).run = s.run := by rfl
@[simp] theorem font_keyDown (id : Nat) : (s.keyDown id).font = s.font := by rfl
@[simp] theorem cyclesPerFrame_keyDown (id : Nat) : (s.keyDown id).cyclesPerFrame = s.cyclesPerFrame := by rfl
@[simp] theorem rnd_keyDown (id : Nat) : (s.keyDown id).rnd = s.rnd := by rfl
@[simp] theorem draws_keyDown (id : Nat) : (s.keyDown id).draws = s.draws := by rfl
@[simp] theorem events_keyDown (id : Nat) : (s.keyDown id).events = s.events := by rfl
@[simp] theorem host_keyDown (id : Nat) : (s.keyDown id).host = s.host := by rfl
@[simp] theorem getV_keyDown (id : Nat) (y : Nibble) : (s.keyDown id).getV y = s.getV y := by rfl
@[simp] theorem getStack_keyDown (id : Nat) (j : Nibble) : (s.keyDown id).getStack j = s.getStack j := by rfl
@[simp] theorem memRead_keyDown (id : Nat) (n : Nat) : (s.keyDown id).memRead n = s.memRead n := by rfl
@[simp] theorem ea_keyDown (id : Nat) (n : Nat) : (s.keyDown id).ea n = s.ea n := by rfl
@[simp] theorem drawn_keyDown (id : Nat) : (s.keyDown id).drawn = s.drawn := by rfl

/-! ### keyUp -/

@[simp] theorem v_keyUp (id : Nat) : (s.keyUp id).v = s.v := by rfl
@[simp] theorem i_keyUp (id : Nat) : (s.keyUp id).i = s.i := by rfl
@[simp] theorem pc_keyUp (id : Nat) : (s.keyUp id).pc = s.pc := by rfl
@[simp] theorem sp_keyUp (id : Nat) : (s.keyUp id).sp = s.sp := by rfl
@[simp] theorem stack_keyUp (id : Nat) : (s.keyUp id).stack = s.stack := by rfl
@[simp] theorem dt_keyUp (id : Nat) : (s.keyUp id).dt = s.dt := by rfl
@[simp] theorem st_keyUp (id : Nat) : (s.keyUp id).st = s.st := by rfl
@[simp] theorem mem_keyUp (id : Nat) : (s.keyUp id).mem = s.mem := by rfl
@[simp] theorem fb_keyUp (id : Nat) : (s.keyUp id).fb = s.fb := by rfl
@[simp] theorem run_keyUp (id : Nat) : (s.keyUp id).run = s.run := by rfl
@[simp] theorem font_keyUp (id : Nat) : (s.keyUp id).font = s.font := by rfl
@[simp] theorem cyclesPerFrame_keyUp (id : Nat) : (s.keyUp id).cyclesPerFrame = s.cyclesPerFrame := by rfl
@[simp] theorem rnd_keyUp (id : Nat) : (s.keyUp id).rnd = s.rnd := by rfl
@[simp] theorem draws_keyUp (id : Nat) : (s.keyUp id).draws = s.draws := by rfl
@[simp] theorem events_keyUp (id : Nat) : (s.keyUp id).events = s.events := by rfl
@[simp] theorem host_keyUp (id : Nat) : (s.keyUp id).host = s.host := by rfl
@[simp] theorem getV_keyUp (id : Nat) (y : Nibble) : (s.keyUp id).getV y = s.getV y := by rfl
@[simp] theorem getStack_keyUp (id : Nat) (j : Nibble) : (s.keyUp id).getStack j = s.getStack j := by rfl
@[simp] theorem memRead_keyUp (id : Nat) (n : Nat) : (s.keyUp id).memRead n = s.memRead n := by rfl
@[simp] theorem ea_keyUp (id : Nat) (n : Nat) : (s.keyUp id).ea n = s.ea n := by rfl
@[simp] theorem drawn_keyUp (id : Nat) : (s.keyUp id).drawn = s.drawn := by rfl

end Sys2Proof.Machine.State
end

