-- ==== Sys2Proof/Laws/Memory.lean ====
section
/-! SUPPORT. What the memory operations do: a read after a write, and the canonical form kept
(spec/20_memory.md rule R59; log entry 21). -/

namespace Sys2Proof.Machine.Memory

open Config

theorem read_insert (font : Font) (m : Memory) (a n : Nat) (b : Byte) :
    read font (insert a b m) n = if n = a then b else read font m n := by
  induction m with
  | nil => simp only [insert, read]; split <;> simp_all [eq_comm]
  | cons c m ih =>
    obtain ⟨k, d⟩ := c
    simp only [insert]
    split_ifs with h₁ h₂ <;> simp only [read, ih] <;> split_ifs <;> first | rfl | omega

theorem read_erase (font : Font) (m : Memory) (a n : Nat) :
    read font (erase a m) n = if n = a then unlisted font a else read font m n := by
  induction m with
  | nil => simp only [erase, read]; split <;> simp_all
  | cons c m ih =>
    obtain ⟨k, d⟩ := c
    simp only [erase]
    split_ifs with h <;> simp only [read, ih] <;> split_ifs <;> first | rfl | omega

/-- A read after a write: the byte written at its own address, every other byte as before. -/
theorem read_write (font : Font) (m : Memory) (a n : Nat) (b : Byte) :
    read font (write font m a b) n = if n = a then b else read font m n := by
  unfold write
  split_ifs with h <;> simp_all [read_insert, read_erase]

/-! ### The canonical form -/

theorem wf_nil (font : Font) : wf font [] = true := rfl

theorem wf_cons (font : Font) (k : Nat) (d : Byte) (m : Memory) :
    wf font ((k, d) :: m) = true ↔
      (∀ c ∈ m, k < c.1) ∧ k < memSize ∧ d ≠ unlisted font k ∧ wf font m = true := by
  simp only [wf, List.map_cons, List.pairwise_cons, List.mem_map, List.all_cons, Bool.and_eq_true,
    decide_eq_true_eq, bne_iff_ne, forall_exists_index, and_imp, forall_apply_eq_imp_iff₂]
  tauto

theorem mem_insert {m : Memory} {a : Nat} {b : Byte} {c : Host.Cell} (h : c ∈ insert a b m) :
    c = (a, b) ∨ c ∈ m := by
  induction m with
  | nil => exact .inl (List.mem_singleton.1 h)
  | cons d m ih =>
    obtain ⟨k, e⟩ := d
    simp only [insert] at h
    split_ifs at h <;> simp only [List.mem_cons] at h ⊢ <;> tauto

theorem mem_erase {m : Memory} {a : Nat} {c : Host.Cell} (h : c ∈ erase a m) : c ∈ m := by
  induction m with
  | nil => exact h
  | cons d m ih =>
    obtain ⟨k, e⟩ := d
    simp only [erase] at h
    split_ifs at h <;> simp only [List.mem_cons] at h ⊢ <;> tauto

theorem wf_insert {font : Font} {m : Memory} {a : Nat} {b : Byte} (hm : wf font m = true)
    (ha : a < memSize) (hb : b ≠ unlisted font a) : wf font (insert a b m) = true := by
  induction m with
  | nil => simp [insert, wf_cons, wf_nil, ha, hb]
  | cons c m ih =>
    obtain ⟨k, d⟩ := c
    obtain ⟨hk, hs, hd, hw⟩ := (wf_cons ..).1 hm
    simp only [insert]
    split_ifs with h₁ h₂
    · refine (wf_cons ..).2 ⟨?_, ha, hb, hm⟩
      intro c hc
      obtain rfl | hc := List.mem_cons.1 hc
      · exact h₁
      · exact h₁.trans (hk c hc)
    · subst h₂; exact (wf_cons ..).2 ⟨hk, hs, hb, hw⟩
    · refine (wf_cons ..).2 ⟨?_, hs, hd, ih hw⟩
      intro c hc
      obtain rfl | hc := mem_insert hc
      · show k < a; omega
      · exact hk c hc

theorem wf_erase {font : Font} {m : Memory} (a : Nat) (hm : wf font m = true) :
    wf font (erase a m) = true := by
  induction m with
  | nil => exact hm
  | cons c m ih =>
    obtain ⟨k, d⟩ := c
    obtain ⟨hk, hs, hd, hm⟩ := (wf_cons ..).1 hm
    simp only [erase]
    split_ifs
    · exact ih hm
    · exact (wf_cons ..).2 ⟨fun c hc => hk c (mem_erase hc), hs, hd, ih hm⟩

/-- A write inside the address space keeps the canonical form. -/
theorem wf_write {font : Font} {m : Memory} {a : Nat} (b : Byte) (hm : wf font m = true)
    (ha : a < memSize) : wf font (write font m a b) = true := by
  unfold write
  split_ifs with h
  · exact wf_erase a hm
  · exact wf_insert hm ha h

/-! ### The image LOAD leaves -/

theorem mem_image {font : Font} {a : Nat} {bytes : List Byte} {c : Host.Cell}
    (h : c ∈ image font a bytes) : a ≤ c.1 := by
  induction bytes generalizing a with
  | nil => simp [image] at h
  | cons b bytes ih =>
    simp only [image] at h
    split_ifs at h
    · exact Nat.le_of_succ_le (ih h)
    · obtain rfl | h := List.mem_cons.1 h
      · exact le_rfl
      · exact Nat.le_of_succ_le (ih h)

theorem wf_image {font : Font} {a : Nat} {bytes : List Byte} (h : a + bytes.length ≤ memSize) :
    wf font (image font a bytes) = true := by
  induction bytes generalizing a with
  | nil => rfl
  | cons b bytes ih =>
    simp only [List.length_cons] at h
    simp only [image]
    split_ifs with hb
    · exact ih (by omega)
    · exact (wf_cons ..).2 ⟨fun c hc => mem_image hc, by omega, hb, ih (by omega)⟩

/-- The image holds its bytes from its base upward, and the reset contents elsewhere. -/
theorem read_image (font : Font) (a n : Nat) (bytes : List Byte) :
    read font (image font a bytes) n =
      if a ≤ n then (bytes[n - a]?).getD (unlisted font n) else unlisted font n := by
  induction bytes generalizing a with
  | nil => simp [image, read]
  | cons b bytes ih =>
    obtain h | rfl | h := lt_trichotomy n a
    · have h' : ¬ a + 1 ≤ n := by omega
      simp only [image]
      split_ifs <;> first | omega | simp [read, ih, h', h.ne']
    · simp only [image]
      split_ifs <;> simp_all [read]
    · obtain ⟨d, rfl⟩ := Nat.exists_eq_add_of_lt h
      have e : a + d + 1 - a = d + 1 := by omega
      have e' : a + d + 1 - (a + 1) = d := by omega
      simp only [image]
      split_ifs <;> simp [read, ih, e, e'] <;> omega

end Sys2Proof.Machine.Memory
end

