-- ==== Sys2Proof/Laws/Ops.lean ====
section
/-! SUPPORT. What each shared operation does, said once: the register file and the call stack, memory
bytes, the block transfers, the pixel primitives, the key queries, and the discipline that keeps VF.
Later proofs cite these and unfold none of the operations. -/

namespace Sys2Proof.Machine

/-! ### Registers and the stack -/

@[simp] theorem State.getV_setV (s : State) (x y : Nibble) (b : Byte) :
    (s.setV x b).getV y = if y = x then b else s.getV y := by
  simp only [State.getV, State.setV, Vector.getElem_set, BitVec.toNat_inj, eq_comm]

@[simp] theorem State.setV_getV (s : State) (x : Nibble) : s.setV x (s.getV x) = s := by
  simp [State.setV, State.getV]

/-- Two register files that agree at every index are equal. -/
theorem State.v_ext {s t : State} (h : ∀ x, s.getV x = t.getV x) : s.v = t.v := by
  apply Vector.ext
  intro k hk
  have := h (BitVec.ofNat 4 k)
  simpa [State.getV, Nat.mod_eq_of_lt hk] using this

@[simp] theorem State.getStack_setStack (s : State) (j k : Nibble) (a : Addr) :
    (s.setStack k a).getStack j = if j = k then a else s.getStack j := by
  simp only [State.getStack, State.setStack, Vector.getElem_set, BitVec.toNat_inj, eq_comm]

/-- A pop after a push gives back what was pushed and the stack pointer as it was. -/
theorem State.popped_push (s : State) (a : Addr) :
    (s.push a).popped = a ∧ (s.push a).pop.sp = s.sp := by
  simp [State.push, State.pop, State.popped]

/-! ### The flag discipline (spec/40_cycle_dispatch.md rule R96) -/

/-- VF is as before, whatever the handler. -/
@[simp] theorem State.getV_keepingVF (s : State) (h : State → State) (y : Nibble) :
    (s.keepingVF h).getV y = if y = 0xF then s.getV 0xF else (h s).getV y := by
  simp [State.keepingVF]

/-- A handler that leaves VF alone runs as it is. -/
theorem State.keepingVF_eq {s : State} {h : State → State} (hF : (h s).getV 0xF = s.getV 0xF) :
    s.keepingVF h = h s := by
  rw [State.keepingVF, ← hF, State.setV_getV]

/-! ### Memory -/

/-- A byte read after a byte write, each address reduced to 12 bits (R51). -/
theorem State.memRead_memWrite (s : State) (a n : Nat) (b : Byte) :
    (s.memWrite a b).memRead n =
      if n % Config.memSize = a % Config.memSize then b else s.memRead n := by
  simp only [State.memRead, State.memWrite, State.mem_setMem, State.font_setMem, Memory.read_write]

theorem State.memRead_mod (s : State) (n : Nat) : s.memRead (n % Config.memSize) = s.memRead n := by
  simp [State.memRead]

/-- What a store from EA(k) upward leaves at an address that none of its bytes goes to. -/
theorem State.memRead_storeFrom_of_ne (s : State) (k : Nat) (bytes : List Byte) (n : Nat)
    (h : ∀ j < bytes.length, n % Config.memSize ≠ s.ea (k + j)) :
    (s.storeFrom k bytes).memRead n = s.memRead n := by
  induction bytes generalizing s k with
  | nil => rfl
  | cons b bytes ih =>
    have h0 := h 0 (by simp)
    have e : s.ea k % Config.memSize = s.ea k := Nat.mod_mod ..
    rw [State.storeFrom, ih, State.memRead_memWrite, if_neg (by rw [e]; exact h0)]
    intro j hj
    have := h (j + 1) (by simpa using hj)
    rwa [State.ea_memWrite, Nat.add_assoc, Nat.add_comm 1 j]

/-- A store of at most 4096 bytes from EA(k) upward leaves byte j at EA(k + j). -/
theorem State.memRead_storeFrom (s : State) (k : Nat) (bytes : List Byte) (j : Nat)
    (hj : j < bytes.length) (hl : bytes.length ≤ Config.memSize) :
    (s.storeFrom k bytes).memRead (s.ea (k + j)) = bytes[j] := by
  induction bytes generalizing s k j with
  | nil => simp at hj
  | cons b bytes ih =>
    simp only [List.length_cons] at hl hj
    cases j with
    | zero =>
      rw [State.storeFrom, State.memRead_storeFrom_of_ne, State.memRead_memWrite]
      · simp
      · intro i hi
        rw [State.ea_memWrite]
        simp only [State.ea, Config.memSize, Nat.add_zero] at hl ⊢
        omega
    | succ j =>
      have := ih (s.memWrite (s.ea k) b) (k + 1) j (by omega) (by omega)
      rw [State.ea_memWrite, Nat.add_assoc, Nat.add_comm 1 j] at this
      rw [State.storeFrom, this, List.getElem_cons_succ]

/-- The memory after a store from EA(k) upward is canonical if it was. -/
theorem State.wf_storeFrom {s : State} (k : Nat) (bytes : List Byte)
    (h : s.mem.wf s.font = true) : (s.storeFrom k bytes).mem.wf s.font = true := by
  induction bytes generalizing s k with
  | nil => exact h
  | cons b bytes ih =>
    exact ih (s := s.memWrite (s.ea k) b) (k + 1)
      (Memory.wf_write b h (Nat.mod_lt _ (by decide)))

/-- The registers V0 to Vx, one by one. -/
theorem State.getElem_regsUpTo (s : State) (x k : Nibble) (h : k.toNat < (s.regsUpTo x).length) :
    (s.regsUpTo x)[k.toNat] = s.getV k := by
  simp [State.regsUpTo, State.getV]

theorem State.length_regsUpTo (s : State) (x : Nibble) : (s.regsUpTo x).length = x.toNat + 1 := by
  have := x.isLt
  simp [State.regsUpTo]
  omega

/-- A block load fills V0 to Vx from EA(0) to EA(x) and leaves the other registers. -/
theorem State.getV_loadUpTo (s : State) (x y : Nibble) :
    (s.loadUpTo x).getV y = if y.toNat ≤ x.toNat then s.memRead (s.ea y.toNat) else s.getV y := by
  simp [State.loadUpTo, State.getV]

/-! ### The frame buffer -/

/-- A flip toggles the one pixel at its wrapped coordinates (R182). -/
theorem Grid.pixel_flip (g : Grid) (x y px py : Nat) :
    (g.flip x y).pixel px py =
      (g.pixel px py ^^ decide (px % Config.dispW = x % Config.dispW ∧ py % Config.dispH = y % Config.dispH)) := by
  simp only [Grid.pixel, Grid.flip, Vector.getElem_set]
  by_cases hy : y % Config.dispH = py % Config.dispH
  · by_cases hx : x % Config.dispW = px % Config.dispW
    · simp [hx, hy]
    · simp [hx, hy, Ne.symm hx]
  · simp [hy, Ne.symm hy]

@[simp] theorem Grid.pixel_cleared (x y : Nat) : Grid.cleared.pixel x y = false := by
  simp [Grid.pixel, Grid.cleared]

/-- Two grids that agree at every pixel are equal. -/
theorem Grid.ext {g g' : Grid} (h : ∀ x y, g.pixel x y = g'.pixel x y) : g = g' := by
  apply Vector.ext
  intro y hy
  apply Vector.ext
  intro x hx
  simpa [Grid.pixel, Nat.mod_eq_of_lt hx, Nat.mod_eq_of_lt hy] using h x y

/-! ### Keys -/

/-- No key id above 0xF is ever pressed (D18). -/
theorem State.isPressed_of_le (s : State) {id : Nat} (h : Config.nKeys ≤ id) :
    s.isPressed id = false := by
  simp [State.isPressed, Vector.getElem?_eq_none h]

/-- The key FX0A takes is held, and no lower one is. -/
theorem State.anyPressed_eq_some (s : State) (k : Nat) :
    s.anyPressed = some k ↔ s.isPressed k = true ∧ ∀ j < k, s.isPressed j = false := by
  rw [State.anyPressed, List.find?_range_eq_some]
  constructor
  · rintro ⟨h₁, -, h₂⟩
    exact ⟨h₁, fun j hj => by simpa using h₂ j hj⟩
  · rintro ⟨h₁, h₂⟩
    refine ⟨h₁, ?_, fun j hj => by simp [h₂ j hj]⟩
    by_contra h
    rw [State.isPressed_of_le s (by simpa using h)] at h₁
    cases h₁

theorem State.anyPressed_eq_none (s : State) :
    s.anyPressed = none ↔ ∀ k, s.isPressed k = false := by
  rw [State.anyPressed, List.find?_range_eq_none]
  constructor
  · intro h k
    obtain hk | hk := lt_or_ge k Config.nKeys
    · simpa using h k hk
    · exact s.isPressed_of_le hk
  · intro h k _
    simp [h k]

end Sys2Proof.Machine
end

