-- ==== Sys2Proof/Laws/Exec.lean ====
section
/-! SUPPORT. One equation per instruction: what `exec` runs for it. All are true by rfl; later proofs
rewrite with these and unfold neither `exec` nor a meaning. -/

namespace Sys2Proof.Machine

variable (s : State)

/-- A handler that is not flag-defining answers a next state, with VF restored (R96). -/
theorem runHandler_eq (h : State → State) : runHandler h s = .next (s.keepingVF h) := rfl

/-- A flag-defining handler answers a next state, with VF as it wrote it (R98). -/
theorem runFlagHandler_eq (h : State → State) : runFlagHandler h s = .next (h s) := rfl

theorem exec_op00E0 :
    exec .op00E0 s =
    runHandler (fun s => s.setFb Grid.cleared) s := rfl

theorem exec_op00EE :
    exec .op00EE s =
    runHandler (fun s => s.pop.setPc s.popped) s := rfl

theorem exec_op1NNN (nnn : Addr) :
    exec (.op1NNN nnn) s =
    runHandler (fun s => s.setPc nnn) s := rfl

theorem exec_op2NNN (nnn : Addr) :
    exec (.op2NNN nnn) s =
    runHandler (fun s => (s.push s.pc).setPc nnn) s := rfl

theorem exec_op3XNN (x : Nibble) (nn : Byte) :
    exec (.op3XNN x nn) s =
    runHandler (fun s => s.skipIf (s.getV x == nn)) s := rfl

theorem exec_op4XNN (x : Nibble) (nn : Byte) :
    exec (.op4XNN x nn) s =
    runHandler (fun s => s.skipIf (s.getV x != nn)) s := rfl

theorem exec_op5XY0 (x : Nibble) (y : Nibble) (n : Nibble) :
    exec (.op5XY0 x y n) s =
    runHandler (fun s => s.skipIf (s.getV x == s.getV y)) s := rfl

theorem exec_op6XNN (x : Nibble) (nn : Byte) :
    exec (.op6XNN x nn) s =
    runHandler (fun s => s.setV x nn) s := rfl

theorem exec_op7XNN (x : Nibble) (nn : Byte) :
    exec (.op7XNN x nn) s =
    runHandler (fun s => s.setV x (s.getV x + nn)) s := rfl

theorem exec_op8XY0 (x : Nibble) (y : Nibble) :
    exec (.op8XY0 x y) s =
    runHandler (fun s => s.setV x (s.getV y)) s := rfl

theorem exec_op8XY1 (x : Nibble) (y : Nibble) :
    exec (.op8XY1 x y) s =
    runHandler (fun s => s.setV x (s.getV x ||| s.getV y)) s := rfl

theorem exec_op8XY2 (x : Nibble) (y : Nibble) :
    exec (.op8XY2 x y) s =
    runHandler (fun s => s.setV x (s.getV x &&& s.getV y)) s := rfl

theorem exec_op8XY3 (x : Nibble) (y : Nibble) :
    exec (.op8XY3 x y) s =
    runHandler (fun s => s.setV x (s.getV x ^^^ s.getV y)) s := rfl

theorem exec_op8XY4 (x : Nibble) (y : Nibble) :
    exec (.op8XY4 x y) s =
    runFlagHandler (fun s =>
      (s.setV x (BitVec.ofNat 8 ((s.getV x).toNat + (s.getV y).toNat))).setFlag
        (carryOut (s.getV x) (s.getV y))) s := rfl

theorem exec_op8XY5 (x : Nibble) (y : Nibble) :
    exec (.op8XY5 x y) s =
    runFlagHandler (fun s =>
      (s.setV x (s.getV x - s.getV y)).setFlag (noBorrow (s.getV x) (s.getV y))) s := rfl

theorem exec_op8XY6 (x : Nibble) (y : Nibble) :
    exec (.op8XY6 x y) s =
    runFlagHandler (fun s => (s.setV x (s.getV x >>> 1)).setFlag (shiftedOutRight (s.getV x))) s := rfl

theorem exec_op8XY7 (x : Nibble) (y : Nibble) :
    exec (.op8XY7 x y) s =
    runFlagHandler (fun s =>
      (s.setV x (s.getV y - s.getV x)).setFlag (noBorrow (s.getV y) (s.getV x))) s := rfl

theorem exec_op8XYE (x : Nibble) (y : Nibble) :
    exec (.op8XYE x y) s =
    runFlagHandler (fun s => (s.setV x (s.getV x <<< 1)).setFlag (shiftedOutLeft (s.getV x))) s := rfl

theorem exec_op9XY0 (x : Nibble) (y : Nibble) (n : Nibble) :
    exec (.op9XY0 x y n) s =
    runHandler (fun s => s.skipIf (s.getV x != s.getV y)) s := rfl

theorem exec_opANNN (nnn : Addr) :
    exec (.opANNN nnn) s =
    runHandler (fun s => s.setI (zext16 nnn)) s := rfl

theorem exec_opBNNN (nnn : Addr) :
    exec (.opBNNN nnn) s =
    runHandler (fun s => s.setPc (nnn + zext12 (s.getV 0x0))) s := rfl

theorem exec_opCXNN (x : Nibble) (nn : Byte) :
    exec (.opCXNN x nn) s =
    runHandler (fun s => s.afterDraw.setV x (s.drawn &&& nn)) s := rfl

theorem exec_opDXYN (x : Nibble) (y : Nibble) (n : Nibble) :
    exec (.opDXYN x y n) s =
    runFlagHandler (fun s =>
      let drawn := s.draw (s.getV x).toNat (s.getV y).toNat n.toNat
      (s.setFb drawn.1).setFlag drawn.2) s := rfl

theorem exec_opEX9E (x : Nibble) :
    exec (.opEX9E x) s =
    runHandler (fun s => s.skipIf (s.isPressed (s.getV x).toNat)) s := rfl

theorem exec_opEXA1 (x : Nibble) :
    exec (.opEXA1 x) s =
    runHandler (fun s => s.skipIf (!s.isPressed (s.getV x).toNat)) s := rfl

theorem exec_opFX07 (x : Nibble) :
    exec (.opFX07 x) s =
    runHandler (fun s => s.setV x s.dt) s := rfl

theorem exec_opFX0A (x : Nibble) :
    exec (.opFX0A x) s =
    runHandler (fun s =>
      match s.anyPressed with
      | none => s.setPc (s.pc - 2)
      | some k => s.setV x (BitVec.ofNat 8 k)) s := rfl

theorem exec_opFX15 (x : Nibble) :
    exec (.opFX15 x) s =
    runHandler (fun s => s.setDt (s.getV x)) s := rfl

theorem exec_opFX18 (x : Nibble) :
    exec (.opFX18 x) s =
    runHandler (fun s => s.setSt (s.getV x)) s := rfl

theorem exec_opFX1E (x : Nibble) :
    exec (.opFX1E x) s =
    runHandler (fun s => s.setI (BitVec.ofNat 16 ((s.i.toNat + (s.getV x).toNat) % Config.memSize))) s := rfl

theorem exec_opFX29 (x : Nibble) :
    exec (.opFX29 x) s =
    runHandler (fun s => s.setI (BitVec.ofNat 16 ((s.getV x).toNat * Config.glyphBytes))) s := rfl

theorem exec_opFX33 (x : Nibble) :
    exec (.opFX33 x) s =
    runHandler (fun s => s.storeFrom 0 (decimalDigits (s.getV x))) s := rfl

theorem exec_opFX55 (x : Nibble) :
    exec (.opFX55 x) s =
    runHandler (fun s => s.storeFrom 0 (s.regsUpTo x)) s := rfl

theorem exec_opFX65 (x : Nibble) :
    exec (.opFX65 x) s =
    runHandler (fun s => s.loadUpTo x) s := rfl

end Sys2Proof.Machine
end

