-- ==== Sys2Proof/Laws/PerInstr.lean ====
section
/-! SUPPORT. Statements made per instruction, one lemma a constructor. Family `EncodeWellFormed`: the word
the encoder gives lies in none of the illegal sets of spec/30_encoding.md rule R79. -/

namespace Sys2Proof.Laws.EncodeWellFormed

/-- The encoding of `i` is a legal word. -/
def Statement (i : Instr) : Prop := wellFormedWord (encode i) = true

/-- A word whose class is one of the twelve that dispatch directly is legal (R74). -/
theorem of_direct_class {w : Word} (h : w.toNat / 4096 ∈ [1, 2, 3, 4, 5, 6, 7, 9, 10, 11, 12, 13]) :
    wellFormedWord w = true := by
  simp only [List.mem_cons, List.not_mem_nil, or_false] at h
  rcases h with h | h | h | h | h | h | h | h | h | h | h | h <;>
    simp [wellFormedWord, illegalClass0, illegalClass8, illegalClassE, illegalClassF, h]

/-- A class-8 word is legal when its low nibble is one of the nine variants (R75). -/
theorem of_class8 {w : Word} (h : w.toNat / 4096 = 8)
    (hn : w.toNat % 16 ∈ [0, 1, 2, 3, 4, 5, 6, 7, 14]) : wellFormedWord w = true := by
  simp only [List.mem_cons, List.not_mem_nil, or_false] at hn
  rcases hn with hn | hn | hn | hn | hn | hn | hn | hn | hn <;>
    simp [wellFormedWord, illegalClass0, illegalClass8, illegalClassE, illegalClassF, h, hn]

/-- A class-E word is legal when its low byte is 0x9E or 0xA1 (R75). -/
theorem of_classE {w : Word} (h : w.toNat / 4096 = 14) (hs : w.toNat % 256 ∈ [0x9E, 0xA1]) :
    wellFormedWord w = true := by
  simp only [List.mem_cons, List.not_mem_nil, or_false] at hs
  rcases hs with hs | hs <;>
    simp [wellFormedWord, illegalClass0, illegalClass8, illegalClassE, illegalClassF, h, hs]

/-- A class-F word is legal when its low byte is one of the nine sub-opcodes (R75). -/
theorem of_classF {w : Word} (h : w.toNat / 4096 = 15)
    (hs : w.toNat % 256 ∈ [0x07, 0x0A, 0x15, 0x18, 0x1E, 0x29, 0x33, 0x55, 0x65]) :
    wellFormedWord w = true := by
  simp only [List.mem_cons, List.not_mem_nil, or_false] at hs
  rcases hs with hs | hs | hs | hs | hs | hs | hs | hs | hs <;>
    simp [wellFormedWord, illegalClass0, illegalClass8, illegalClassE, illegalClassF, h, hs]

theorem wordA_div (c : Nibble) (nnn : Addr) : (wordA c nnn).toNat / 4096 = c.toNat := by
  have := nnn.isLt
  rw [toNat_wordA]
  omega

theorem wordXNN_div (c x : Nibble) (nn : Byte) : (wordXNN c x nn).toNat / 4096 = c.toNat := by
  have := x.isLt
  have := nn.isLt
  rw [toNat_wordXNN]
  omega

theorem wordXNN_mod (c x : Nibble) (nn : Byte) : (wordXNN c x nn).toNat % 256 = nn.toNat := by
  have := nn.isLt
  rw [toNat_wordXNN]
  omega

theorem wordXYN_div (c x y n : Nibble) : (wordXYN c x y n).toNat / 4096 = c.toNat :=
  wordXNN_div c x (y ++ n)

theorem wordXYN_mod (c x y n : Nibble) : (wordXYN c x y n).toNat % 16 = n.toNat := by
  have := n.isLt
  rw [toNat_wordXYN]
  omega

theorem op00E0 : Statement .op00E0 :=
  rfl

theorem op00EE : Statement .op00EE :=
  rfl

theorem op1NNN (nnn : Addr) : Statement (.op1NNN nnn) :=
  of_direct_class (by rw [encode, wordA_div]; decide)

theorem op2NNN (nnn : Addr) : Statement (.op2NNN nnn) :=
  of_direct_class (by rw [encode, wordA_div]; decide)

theorem op3XNN (x : Nibble) (nn : Byte) : Statement (.op3XNN x nn) :=
  of_direct_class (by rw [encode, wordXNN_div]; decide)

theorem op4XNN (x : Nibble) (nn : Byte) : Statement (.op4XNN x nn) :=
  of_direct_class (by rw [encode, wordXNN_div]; decide)

theorem op5XY0 (x y n : Nibble) : Statement (.op5XY0 x y n) :=
  of_direct_class (by rw [encode, wordXYN_div]; decide)

theorem op6XNN (x : Nibble) (nn : Byte) : Statement (.op6XNN x nn) :=
  of_direct_class (by rw [encode, wordXNN_div]; decide)

theorem op7XNN (x : Nibble) (nn : Byte) : Statement (.op7XNN x nn) :=
  of_direct_class (by rw [encode, wordXNN_div]; decide)

theorem op8XY0 (x y : Nibble) : Statement (.op8XY0 x y) :=
  of_class8 (wordXYN_div ..) (by rw [encode, wordXYN_mod]; decide)

theorem op8XY1 (x y : Nibble) : Statement (.op8XY1 x y) :=
  of_class8 (wordXYN_div ..) (by rw [encode, wordXYN_mod]; decide)

theorem op8XY2 (x y : Nibble) : Statement (.op8XY2 x y) :=
  of_class8 (wordXYN_div ..) (by rw [encode, wordXYN_mod]; decide)

theorem op8XY3 (x y : Nibble) : Statement (.op8XY3 x y) :=
  of_class8 (wordXYN_div ..) (by rw [encode, wordXYN_mod]; decide)

theorem op8XY4 (x y : Nibble) : Statement (.op8XY4 x y) :=
  of_class8 (wordXYN_div ..) (by rw [encode, wordXYN_mod]; decide)

theorem op8XY5 (x y : Nibble) : Statement (.op8XY5 x y) :=
  of_class8 (wordXYN_div ..) (by rw [encode, wordXYN_mod]; decide)

theorem op8XY6 (x y : Nibble) : Statement (.op8XY6 x y) :=
  of_class8 (wordXYN_div ..) (by rw [encode, wordXYN_mod]; decide)

theorem op8XY7 (x y : Nibble) : Statement (.op8XY7 x y) :=
  of_class8 (wordXYN_div ..) (by rw [encode, wordXYN_mod]; decide)

theorem op8XYE (x y : Nibble) : Statement (.op8XYE x y) :=
  of_class8 (wordXYN_div ..) (by rw [encode, wordXYN_mod]; decide)

theorem op9XY0 (x y n : Nibble) : Statement (.op9XY0 x y n) :=
  of_direct_class (by rw [encode, wordXYN_div]; decide)

theorem opANNN (nnn : Addr) : Statement (.opANNN nnn) :=
  of_direct_class (by rw [encode, wordA_div]; decide)

theorem opBNNN (nnn : Addr) : Statement (.opBNNN nnn) :=
  of_direct_class (by rw [encode, wordA_div]; decide)

theorem opCXNN (x : Nibble) (nn : Byte) : Statement (.opCXNN x nn) :=
  of_direct_class (by rw [encode, wordXNN_div]; decide)

theorem opDXYN (x y n : Nibble) : Statement (.opDXYN x y n) :=
  of_direct_class (by rw [encode, wordXYN_div]; decide)

theorem opEX9E (x : Nibble) : Statement (.opEX9E x) :=
  of_classE (wordXNN_div ..) (by rw [encode, wordXNN_mod]; decide)

theorem opEXA1 (x : Nibble) : Statement (.opEXA1 x) :=
  of_classE (wordXNN_div ..) (by rw [encode, wordXNN_mod]; decide)

theorem opFX07 (x : Nibble) : Statement (.opFX07 x) :=
  of_classF (wordXNN_div ..) (by rw [encode, wordXNN_mod]; decide)

theorem opFX0A (x : Nibble) : Statement (.opFX0A x) :=
  of_classF (wordXNN_div ..) (by rw [encode, wordXNN_mod]; decide)

theorem opFX15 (x : Nibble) : Statement (.opFX15 x) :=
  of_classF (wordXNN_div ..) (by rw [encode, wordXNN_mod]; decide)

theorem opFX18 (x : Nibble) : Statement (.opFX18 x) :=
  of_classF (wordXNN_div ..) (by rw [encode, wordXNN_mod]; decide)

theorem opFX1E (x : Nibble) : Statement (.opFX1E x) :=
  of_classF (wordXNN_div ..) (by rw [encode, wordXNN_mod]; decide)

theorem opFX29 (x : Nibble) : Statement (.opFX29 x) :=
  of_classF (wordXNN_div ..) (by rw [encode, wordXNN_mod]; decide)

theorem opFX33 (x : Nibble) : Statement (.opFX33 x) :=
  of_classF (wordXNN_div ..) (by rw [encode, wordXNN_mod]; decide)

theorem opFX55 (x : Nibble) : Statement (.opFX55 x) :=
  of_classF (wordXNN_div ..) (by rw [encode, wordXNN_mod]; decide)

theorem opFX65 (x : Nibble) : Statement (.opFX65 x) :=
  of_classF (wordXNN_div ..) (by rw [encode, wordXNN_mod]; decide)

end Sys2Proof.Laws.EncodeWellFormed
end

