-- ==== Sys2Proof/Laws/Step.lean ====
section
/-! SUPPORT. What a cycle, a command and a step can do, said once. -/

namespace Sys2Proof.Machine

/-! ### A cycle (spec/40_cycle_dispatch.md rule R90) -/

theorem cycle_of_not_run {s : State} (h : s.run = false) : cycle s = .next s := by
  simp [cycle, h]

theorem cycle_of_ok {s : State} {i : Instr} (h : s.run = true) (hd : decode s.fetch = .ok i) :
    cycle s = exec i s.advance := by
  simp [cycle, h, hd]

theorem cycle_of_error {s : State} {e : DecodeError} (h : s.run = true)
    (hd : decode s.fetch = .error e) :
    cycle s = .next (s.advance.raiseUndefinedOpcode s.fetch) := by
  simp [cycle, h, hd]

/-- What a cycle can do: nothing, one instruction, or the fatal decode error. -/
theorem cycle_cases (s : State) :
    (s.run = false ∧ cycle s = .next s) ∨
    (∃ i, s.run = true ∧ decode s.fetch = .ok i ∧ cycle s = exec i s.advance) ∨
    (∃ e, s.run = true ∧ decode s.fetch = .error e ∧
      cycle s = .next (s.advance.raiseUndefinedOpcode s.fetch)) := by
  cases hr : s.run with
  | false => exact .inl ⟨rfl, cycle_of_not_run hr⟩
  | true =>
    cases hd : decode s.fetch with
    | ok i => exact .inr (.inl ⟨i, rfl, rfl, cycle_of_ok hr hd⟩)
    | error e => exact .inr (.inr ⟨e, rfl, rfl, cycle_of_error hr hd⟩)

/-! ### A step (spec/00_scope.md rules R10, R11) -/

theorem step_of_host_nil {s : State} (h : s.host = []) : step s = cycle s := by
  simp [step, nextCommand, h]

theorem step_of_host_cons {s : State} {c : Command} {cs : List Command} (h : s.host = c :: cs) :
    step s = execCommand c (s.setHost cs) := by
  simp [step, nextCommand, h]

/-- What a step can do: a cycle of the state as it stands, or the host's next command. -/
theorem step_cases (s : State) :
    (s.host = [] ∧ step s = cycle s) ∨
    (∃ c cs, s.host = c :: cs ∧ step s = execCommand c (s.setHost cs)) := by
  cases h : s.host with
  | nil => exact .inl ⟨rfl, step_of_host_nil h⟩
  | cons c cs => exact .inr ⟨c, cs, rfl, step_of_host_cons h⟩

/-- A step that is a CYCLE is the cycle of the state with the command taken from the host's list. -/
theorem step_of_givesCycle {s : State} {cs : List Command} (h : s.GivesCycle cs) :
    step s = cycle (s.setHost cs) := by
  obtain ⟨h, rfl⟩ | h := h
  · have : s.setHost [] = s := by rw [← h]; rfl
    rw [step_of_host_nil h, this]
  · rw [step_of_host_cons h]; rfl

/-- A run goes on from the next state. -/
theorem run_succ_of_next {s t : State} {k : Nat} (h : step s = .next t) :
    Host.Core.run Sys2Proof.core (k + 1) s = Host.Core.run Sys2Proof.core k t := by
  have h' : Sys2Proof.core.step s = .next t := h
  simp only [Host.Core.run, h']

/-- A state that steps to itself stays, for any number of steps. -/
theorem run_of_step_self {s : State} (h : step s = .next s) (k : Nat) :
    Host.Core.run Sys2Proof.core k s = .next s := by
  induction k with
  | zero => rfl
  | succ k ih => rw [run_succ_of_next h, ih]

/-! ### The timers of a FRAME (spec/60_exceptions.md rule R235) -/

/-- The delay timer at a FRAME touches DT alone. -/
theorem State.countDt_eq (s : State) :
    s.countDt = s.setDt (if s.dt = 0 then 0 else s.dt - 1) := by
  unfold State.countDt
  split_ifs with h
  · rw [← h]; rfl
  · rfl

/-- The sound timer at a FRAME touches ST and, on the step from 2 to 1, the events. -/
theorem State.countSt_eq (s : State) :
    s.countSt = { s with
      st := if s.st = 0 then 0 else s.st - 1
      events := s.events ++ if s.st = 2 then [.toneStart] else [] } := by
  have hone : ∀ b : Byte, b - 1 = 1 ↔ b = 2 := by decide
  unfold State.countSt
  cases s
  split_ifs <;> simp_all [State.setSt, State.emit]

/-- What a FRAME can do: nothing with RUN false; else one RENDER, both timers down, and TONE_START on the
step of ST from 2 to 1. -/
theorem frame_eq (s : State) :
    frame s = if s.run then { s with
      dt := if s.dt = 0 then 0 else s.dt - 1
      st := if s.st = 0 then 0 else s.st - 1
      events := s.events ++ [.render s.fb] ++ if s.st = 2 then [.toneStart] else [] } else s := by
  unfold frame
  split_ifs
  all_goals first | rfl | (rw [State.countSt_eq, State.countDt_eq]; simp_all [State.setDt, State.emit])

end Sys2Proof.Machine
end

