-- ==== Sys2Proof/Tests/Slice0.lean ====
section
/-! SUPPORT. Tests. Every expected value comes from the spec: the words from the opcode map R77 of
spec/30_encoding.md, the results from the vectors of spec/95_test_vectors.md, named by number, or from the
examples of the rules. The last part shows, for each obligation with hypotheses, states that meet them. -/

namespace Sys2Proof.Tests

open Sys2Proof.Machine

/-! ### Decoding: one word of every row, written out from its pattern -/

theorem test_decode_Z :
    decode 0x00E0 = .ok .op00E0 ∧ decode 0x00EE = .ok .op00EE := by decide

theorem test_decode_A :
    decode 0x1ABC = .ok (.op1NNN 0xABC) ∧ decode 0x2DEF = .ok (.op2NNN 0xDEF) ∧
    decode 0xA2F0 = .ok (.opANNN 0x2F0) ∧ decode 0xB30E = .ok (.opBNNN 0x30E) := by decide

theorem test_decode_XNN :
    decode 0x3142 = .ok (.op3XNN 0x1 0x42) ∧ decode 0x4E7F = .ok (.op4XNN 0xE 0x7F) ∧
    decode 0x6A05 = .ok (.op6XNN 0xA 0x05) ∧ decode 0x71FF = .ok (.op7XNN 0x1 0xFF) ∧
    decode 0xC30F = .ok (.opCXNN 0x3 0x0F) := by decide

theorem test_decode_XY_skips :
    decode 0x5127 = .ok (.op5XY0 0x1 0x2 0x7) ∧ decode 0x912F = .ok (.op9XY0 0x1 0x2 0xF) := by decide

theorem test_decode_XY_class8 :
    decode 0x8120 = .ok (.op8XY0 0x1 0x2) ∧ decode 0x8341 = .ok (.op8XY1 0x3 0x4) ∧
    decode 0x8562 = .ok (.op8XY2 0x5 0x6) ∧ decode 0x8783 = .ok (.op8XY3 0x7 0x8) ∧
    decode 0x89A4 = .ok (.op8XY4 0x9 0xA) ∧ decode 0x8BC5 = .ok (.op8XY5 0xB 0xC) ∧
    decode 0x8DE6 = .ok (.op8XY6 0xD 0xE) ∧ decode 0x8F07 = .ok (.op8XY7 0xF 0x0) ∧
    decode 0x812E = .ok (.op8XYE 0x1 0x2) := by decide

theorem test_decode_XYN : decode 0xD125 = .ok (.opDXYN 0x1 0x2 0x5) := by decide

theorem test_decode_XS :
    decode 0xE19E = .ok (.opEX9E 0x1) ∧ decode 0xE2A1 = .ok (.opEXA1 0x2) ∧
    decode 0xF307 = .ok (.opFX07 0x3) ∧ decode 0xF40A = .ok (.opFX0A 0x4) ∧
    decode 0xF515 = .ok (.opFX15 0x5) ∧ decode 0xF618 = .ok (.opFX18 0x6) ∧
    decode 0xF71E = .ok (.opFX1E 0x7) ∧ decode 0xF829 = .ok (.opFX29 0x8) ∧
    decode 0xF933 = .ok (.opFX33 0x9) ∧ decode 0xFA55 = .ok (.opFX55 0xA) ∧
    decode 0xFB65 = .ok (.opFX65 0xB) := by decide

/-- Vectors X1 to X10: the words the spec lists as illegal. -/
theorem test_illegal_words :
    decode 0xFFFF = .error (.undefinedOpcode 0xFFFF) ∧ decode 0x0123 = .error (.undefinedOpcode 0x0123) ∧
    decode 0x0000 = .error (.undefinedOpcode 0x0000) ∧ decode 0x00E1 = .error (.undefinedOpcode 0x00E1) ∧
    decode 0x00FF = .error (.undefinedOpcode 0x00FF) ∧ decode 0x8008 = .error (.undefinedOpcode 0x8008) ∧
    decode 0x800F = .error (.undefinedOpcode 0x800F) ∧ decode 0xE09F = .error (.undefinedOpcode 0xE09F) ∧
    decode 0xF000 = .error (.undefinedOpcode 0xF000) ∧ decode 0xF1FF = .error (.undefinedOpcode 0xF1FF) := by decide

theorem test_truncated_bytes :
    decodeBytes [] = .error (.truncated 0) ∧ decodeBytes [0x60] = .error (.truncated 1) := by decide

/-- R54, D5: the byte at the lower address is the high one. -/
theorem test_decode_bytes_high_byte_first :
    decodeBytes [0x6A, 0x05, 0x77] = .ok (.op6XNN 0xA 0x05, [0x77]) := by decide

/-! ### Well-formedness: each check refuses an ill-formed term -/

theorem test_wellFormed_class0 : illegalClass0 0x0123 = true ∧ wellFormedWord 0x0123 = false := by decide
theorem test_wellFormed_class8 : illegalClass8 0x8008 = true ∧ wellFormedWord 0x8008 = false := by decide
theorem test_wellFormed_classE : illegalClassE 0xE09F = true ∧ wellFormedWord 0xE09F = false := by decide
theorem test_wellFormed_classF : illegalClassF 0xF1FF = true ∧ wellFormedWord 0xF1FF = false := by decide
theorem test_wellFormed_word : wellFormedWord 0x5121 = true := by decide

theorem test_wellFormed_load :
    (Command.load (.replicate 0x0E01 0)).wellFormed = false ∧
    (Command.load (.replicate 0x0E00 0)).wellFormed = true := by
  simp only [Command.wellFormed, List.length_replicate]
  decide

theorem test_wellFormed_keys :
    (Command.keyDown 16).wellFormed = false ∧ (Command.keyUp 16).wellFormed = false ∧
    (Command.keyDown 15).wellFormed = true ∧ (Command.keyUp 15).wellFormed = true := by decide

/-! ### One step of each instruction -/

/-- The start state of the vectors: after a LOAD, with the word at 0x200. -/
def start (w : Nat) : State := (State.reset.load []).withFetchWord 16 w

/-- A field of the state a step ends in. -/
def after {α : Type} (s : State) (f : State → α) : Option α :=
  match step s with
  | .next t => some (f t)
  | .fault _ => none
  | .refused _ => none

/-- E6, first cycle: R115. -/
theorem test_2NNN_call :
    after (start 0x2206) (fun t => (t.pc, t.sp, t.getStack 0)) = some (0x206, 1, 0x202) := by decide

/-- B17: R113 at SP = 0. -/
theorem test_00EE_empty_stack : after (start 0x00EE) (fun t => (t.pc, t.sp)) = some (0x000, 15) := by
  decide

/-- R113's example. -/
theorem test_00EE_return :
    after (((start 0x00EE).setStack 0 0x206).setSp 1) (fun t => (t.pc, t.sp)) = some (0x206, 0) := by
  decide

/-- B1. -/
theorem test_1NNN : after (start 0x1ABC) (fun t => t.pc) = some 0xABC := by decide

/-- B3 and B4. -/
theorem test_3XNN :
    after ((start 0x3105).setV 1 0x05) (fun t => t.pc) = some 0x204 ∧
    after ((start 0x3105).setV 1 0x06) (fun t => t.pc) = some 0x202 := by decide

/-- B5 and B6. -/
theorem test_4XNN :
    after ((start 0x4105).setV 1 0x05) (fun t => t.pc) = some 0x202 ∧
    after ((start 0x4105).setV 1 0x06) (fun t => t.pc) = some 0x204 := by decide

/-- B8 and B9. -/
theorem test_5XY0 :
    after (((start 0x5127).setV 1 0x03).setV 2 0x03) (fun t => t.pc) = some 0x204 ∧
    after (((start 0x5120).setV 1 0x03).setV 2 0x04) (fun t => t.pc) = some 0x202 := by decide

/-- B11 and B12. -/
theorem test_9XY0 :
    after (((start 0x912F).setV 1 0x03).setV 2 0x04) (fun t => t.pc) = some 0x204 ∧
    after (((start 0x9120).setV 1 0x03).setV 2 0x03) (fun t => t.pc) = some 0x202 := by decide

/-- B14: the sum wraps at 4096. -/
theorem test_BNNN : after ((start 0xBFFF).setV 0 0xFF) (fun t => t.pc) = some 0x0FE := by decide

/-- B21: a skip over the top of memory. -/
theorem test_skip_wraps :
    after (((State.reset.load []).setPc 0xFFE).withFetchWord 16 0x3000) (fun t => t.pc) = some 0x002 := by
  decide

/-- B22: a fetch across the top of memory. -/
theorem test_fetch_wraps :
    after (((State.reset.load []).setPc 0xFFF).withFetchWord 16 0x1ABC) (fun t => t.pc) = some 0xABC := by
  decide

/-- A1 and A2. -/
theorem test_6XNN :
    after (start 0x6A05) (fun t => (t.getV 0xA, t.pc)) = some (0x05, 0x202) ∧
    after ((start 0x6F42).setV 0xF 0x07) (fun t => t.getV 0xF) = some 0x07 := by decide

/-- A4 and A5. -/
theorem test_7XNN :
    after ((start 0x7101).setV 1 0xFF) (fun t => (t.getV 1, t.getV 0xF)) = some (0x00, 0x00) ∧
    after ((start 0x7FFF).setV 0xF 0x01) (fun t => t.getV 0xF) = some 0x01 := by decide

/-- A6 and A7. -/
theorem test_8XY0 :
    after (((start 0x8F10).setV 1 0x33).setV 0xF 0x07) (fun t => t.getV 0xF) = some 0x07 ∧
    after ((start 0x81F0).setV 0xF 0x07) (fun t => (t.getV 1, t.getV 0xF)) = some (0x07, 0x07) := by
  decide

/-- A8. -/
theorem test_8XY1 :
    after ((((start 0x8121).setV 1 0x0F).setV 2 0xF0).setV 0xF 0x07) (fun t => (t.getV 1, t.getV 0xF)) =
      some (0xFF, 0x07) := by decide

/-- A9. -/
theorem test_8XY2 :
    after (((start 0x8122).setV 1 0x0F).setV 2 0x3C) (fun t => t.getV 1) = some 0x0C := by decide

/-- A10 and A12. -/
theorem test_8XY3 :
    after (((start 0x8123).setV 1 0x0F).setV 2 0x3C) (fun t => t.getV 1) = some 0x33 ∧
    after ((start 0x8FF3).setV 0xF 0x5A) (fun t => t.getV 0xF) = some 0x5A := by decide

/-- A13 and A15. -/
theorem test_8XY4 :
    after (((start 0x8124).setV 1 0xFF).setV 2 0x02) (fun t => (t.getV 1, t.getV 0xF)) =
      some (0x01, 0x01) ∧
    after (((start 0x8124).setV 1 0x7F).setV 2 0x80) (fun t => (t.getV 1, t.getV 0xF)) =
      some (0xFF, 0x00) := by decide

/-- A17 and A18: VF as destination and as source. -/
theorem test_8XY4_VF :
    after (((start 0x8F14).setV 1 0x02).setV 0xF 0xFF) (fun t => t.getV 0xF) = some 0x01 ∧
    after (((start 0x81F4).setV 1 0x02).setV 0xF 0x05) (fun t => (t.getV 1, t.getV 0xF)) =
      some (0x07, 0x00) := by decide

/-- A19 and A20: the borrow, and the strict comparison. -/
theorem test_8XY5 :
    after (((start 0x8125).setV 1 0x02).setV 2 0x05) (fun t => (t.getV 1, t.getV 0xF)) =
      some (0xFD, 0x00) ∧
    after (((start 0x8125).setV 1 0x05).setV 2 0x05) (fun t => (t.getV 1, t.getV 0xF)) =
      some (0x00, 0x00) := by decide

/-- A22 and A23: VF as destination and as source. -/
theorem test_8XY5_VF :
    after (((start 0x8F15).setV 0xF 0x05).setV 1 0x02) (fun t => t.getV 0xF) = some 0x01 ∧
    after (((start 0x81F5).setV 1 0x09).setV 0xF 0x03) (fun t => (t.getV 1, t.getV 0xF)) =
      some (0x06, 0x01) := by decide

/-- A26 and A27: Vy is ignored; the old bit 0 of VF. -/
theorem test_8XY6 :
    after (((start 0x8126).setV 1 0x04).setV 2 0xFF) (fun t => (t.getV 1, t.getV 0xF)) =
      some (0x02, 0x00) ∧
    after ((start 0x8F06).setV 0xF 0x03) (fun t => t.getV 0xF) = some 0x01 := by decide

/-- A28 and A30. -/
theorem test_8XY7 :
    after (((start 0x8127).setV 1 0x02).setV 2 0x05) (fun t => (t.getV 1, t.getV 0xF)) =
      some (0x03, 0x01) ∧
    after (((start 0x8127).setV 1 0x05).setV 2 0x02) (fun t => (t.getV 1, t.getV 0xF)) =
      some (0xFD, 0x00) := by decide

/-- A32 and A34. -/
theorem test_8XYE :
    after ((start 0x810E).setV 1 0x81) (fun t => (t.getV 1, t.getV 0xF)) = some (0x02, 0x01) ∧
    after ((start 0x8F0E).setV 0xF 0x81) (fun t => t.getV 0xF) = some 0x01 := by decide

/-- A35 and A37, with the draw supplied. -/
theorem test_CXNN :
    after ({ start 0xC30F with rnd := [0xA5, 0x11] }) (fun t => (t.getV 3, t.rnd)) =
      some (0x05, [0x11]) ∧
    after ({ (start 0xCFFF).setV 0xF 0x11 with rnd := [0xA5] }) (fun t => (t.getV 0xF, t.rnd)) =
      some (0x11, []) := by decide

/-- M1. -/
theorem test_ANNN : after (start 0xA123) (fun t => t.i) = some 0x123 := by decide

/-- M2: the sum wraps at 4096. -/
theorem test_FX1E :
    after (((start 0xF11E).setV 1 0x05).setI 0xFFE) (fun t => (t.i, t.getV 0xF)) = some (0x003, 0x00) := by
  decide

/-- M6 and M7: no mask to 4 bits. -/
theorem test_FX29 :
    after ((start 0xF029).setV 0 0x0F) (fun t => t.i) = some 0x04B ∧
    after ((start 0xF029).setV 0 0xFF) (fun t => t.i) = some 0x4FB := by decide

/-- M16: the three addresses wrap, over the font. -/
theorem test_FX33 :
    after (((start 0xF133).setV 1 0xFE).setI 0xFFF)
      (fun t => (t.memRead 0xFFF, t.memRead 0x000, t.memRead 0x001, t.i)) =
      some (0x02, 0x05, 0x04, 0xFFF) := by decide

/-- M18. -/
theorem test_FX55 :
    after ((((start 0xF155).setV 0 0xAA).setV 1 0xBB).setI 0xFFF)
      (fun t => (t.memRead 0xFFF, t.memRead 0x000, t.memRead 0x001)) = some (0xAA, 0xBB, 0x90) := by decide

/-- M19: the true VF is stored. -/
theorem test_FX55_VF :
    after (((start 0xFF55).setV 0xF 0x77).setI 0x300) (fun t => (t.memRead 0x30E, t.memRead 0x30F, t.i)) =
      some (0x00, 0x77, 0x300) := by decide

/-- M20. -/
theorem test_FX65 :
    after ((((start 0xF165).memWrite 0x300 0x10).memWrite 0x301 0x11).memWrite 0x302 0x12 |>.setI 0x300)
      (fun t => (t.getV 0, t.getV 1, t.getV 2, t.i)) = some (0x10, 0x11, 0x00, 0x300) := by decide

/-- M21: the load of VF is undone. -/
theorem test_FX65_VF :
    after ((((start 0xFF65).memWrite 0x30E 0x1E).memWrite 0x30F 0x1F).setV 0xF 0x99 |>.setI 0x300)
      (fun t => (t.getV 0xE, t.getV 0xF)) = some (0x1E, 0x99) := by decide

/-- G10. -/
theorem test_00E0 :
    after (((start 0x00E0).setFb (Grid.cleared.flip 5 5)).setV 0xF 0x09)
      (fun t => (t.fb.pixel 5 5, t.getV 0xF)) = some (false, 0x09) := by decide

/-- G7: one pixel set, one erased, and the collision. -/
theorem test_DXYN_collision :
    after ((((start 0xD011).memWrite 0x300 0xC0).setI 0x300).setFb (Grid.cleared.flip 1 0))
      (fun t => (t.fb.pixel 0 0, t.fb.pixel 1 0, t.fb.pixel 2 0, t.getV 0xF)) =
      some (true, false, false, 0x01) := by decide

/-- G8: the coordinates are the old VF, and VF is the flag after. -/
theorem test_DXYN_VF :
    after ((((start 0xDFF1).memWrite 0x300 0x80).setI 0x300).setV 0xF 0x05)
      (fun t => (t.fb.pixel 5 5, t.getV 0xF)) = some (true, 0x00) := by decide

/-- K1 and K5. -/
theorem test_EX9E :
    after (((start 0xE19E).setV 1 0x05).keyDown 5) (fun t => t.pc) = some 0x204 ∧
    after (((start 0xE19E).setV 1 0x15).keyDown 5) (fun t => t.pc) = some 0x202 := by decide

/-- K3 and K6. -/
theorem test_EXA1 :
    after (((start 0xE1A1).setV 1 0x05).keyDown 5) (fun t => t.pc) = some 0x202 ∧
    after (((start 0xE1A1).setV 1 0x15).keyDown 5) (fun t => t.pc) = some 0x204 := by decide

/-- K7 and K8. -/
theorem test_FX0A :
    after (start 0xF30A) (fun t => (t.pc, t.getV 3)) = some (0x200, 0x00) ∧
    after (((start 0xF30A).keyDown 9).keyDown 2) (fun t => (t.pc, t.getV 3)) = some (0x202, 0x02) := by
  decide

/-- K11 and K12. -/
theorem test_FX07 :
    after ((start 0xF107).setDt 0x2A) (fun t => t.getV 1) = some 0x2A ∧
    after (((start 0xFF07).setDt 0x2A).setV 0xF 0x01) (fun t => t.getV 0xF) = some 0x01 := by decide

/-- K13. -/
theorem test_FX15 : after ((start 0xF115).setV 1 0x3C) (fun t => t.dt) = some 0x3C := by decide

/-- K14: no TONE_START. -/
theorem test_FX18 :
    after ((start 0xF118).setV 1 0x01) (fun t => (t.st, t.events)) = some (0x01, []) := by decide

/-! ### The commands -/

/-- E7, first cycle. -/
theorem test_illegal_word_halts :
    after (start 0xFFFF) (fun t => (t.run, t.pc, t.events)) = some (false, 0x202, [.fatal 0xFFFF]) := by
  decide

/-- T2 and T3, the events without their grid. -/
theorem test_frame :
    after (((start 0).setSt 0x02).setHost [.frame]) (fun t => (t.dt, t.st, t.events.tail)) =
      some (0x00, 0x01, [.toneStart]) ∧
    after (((start 0).setSt 0x01).setHost [.frame]) (fun t => (t.dt, t.st, t.events.tail)) =
      some (0x00, 0x00, []) := by decide

/-- T5. -/
theorem test_frame_not_playing :
    after ((State.reset.setDt 0x05).setHost [.frame]) (fun t => (t.dt, t.events)) =
      some (0x05, []) := by decide

/-- E4: what a LOAD places and clears. -/
theorem test_load :
    after ((((start 0).memWrite 0x400 0x55).memWrite 0x100 0x55).setHost [.load [0xAB, 0xCD, 0xEF]])
      (fun t => ([0x200, 0x201, 0x202, 0x203, 0x400, 0x100, 0x000].map t.memRead, t.pc, t.run)) =
      some ([0xAB, 0xCD, 0xEF, 0x00, 0x00, 0x00, 0xF0], 0x200, true) := by decide

/-- L3: a LOAD releases the keys and clears the display. -/
theorem test_load_keys_and_display :
    after (((State.reset.keyDown 3).setFb (Grid.cleared.flip 0 0)).setHost [.load []])
      (fun t => (t.isPressed 3, t.fb.pixel 0 0)) = some (false, false) := by decide

/-! ### Witnesses: for each obligation with hypotheses, states and operands that meet them -/

/-- The state an instruction ends in. -/
def ran (i : Instr) (s : State) : State :=
  match exec i s with
  | .next t => t
  | .fault _ => s
  | .refused _ => s

/-- A machine playing, with nothing but FONT in memory. -/
def playing : State := State.reset.load []

theorem witness_EncodeInvertsDecode : decode 0x6A05 = .ok (.op6XNN 0xA 0x05) := by decide

theorem witness_OpcodeMapSelectsTheInstruction :
    (∃ w i, decode w = .ok i) ∧ (∃ w : Word, ∃ r ∈ opcodeMap, r.selectedBy w = true) ∧
    (∃ w : Word, ∀ r ∈ opcodeMap, r.selectedBy w = false) :=
  ⟨⟨0x00E0, .op00E0, by decide⟩, ⟨0x00E0, ⟨"00E0", 0x00E0, 0xFFFF⟩, by decide⟩, ⟨0xFFFF, by decide⟩⟩

theorem witness_StepRunsTheDecodedInstruction :
    ((start 0x6A05).GivesCycle [] ∧ (start 0x6A05).run = true ∧
      decode (start 0x6A05).fetch = .ok (.op6XNN 0xA 0x05)) ∧
    (((start 0x6A05).setHost [.cycle, .frame]).GivesCycle [.frame] ∧
      ((start 0x6A05).setHost [.cycle, .frame]).run = true ∧
      decode ((start 0x6A05).setHost [.cycle, .frame]).fetch = .ok (.op6XNN 0xA 0x05)) :=
  ⟨⟨.inl ⟨rfl, rfl⟩, rfl, by decide⟩, ⟨.inr rfl, rfl, by decide⟩⟩

theorem witness_PlacedWordIsFetched :
    (0xFFFF < 65536) ∧ 0x1FF % 4096 ≠ playing.pc.toNat ∧ 0x1FF % 4096 ≠ (playing.pc.toNat + 1) % 4096 := by
  decide

theorem witness_IllegalWordHaltsTheBlock :
    (start 0xFFFF).GivesCycle [] ∧ (start 0xFFFF).run = true ∧
    decode (start 0xFFFF).fetch = .error (.undefinedOpcode 0xFFFF) :=
  ⟨.inl ⟨rfl, rfl⟩, rfl, by decide⟩

theorem witness_NothingRunsWhileRunIsFalse :
    State.reset.run = false ∧ State.reset.GivesCycle [] ∧ State.reset.host = [] ∧
    (State.reset.setHost [.frame]).run = false ∧ (State.reset.setHost [.frame]).host = [.frame] :=
  ⟨rfl, .inl ⟨rfl, rfl⟩, rfl, rfl, rfl⟩

theorem witness_OnlyFlagDefiningInstructionsChangeVF :
    (∃ t, exec (.op8XY4 1 2) playing = .next t) ∧ (∃ t, exec (.op6XNN 0xF 0x42) playing = .next t) :=
  ⟨⟨_, rfl⟩, ⟨_, rfl⟩⟩

/-- Each clause: an instruction that does change the state it speaks of. -/
theorem witness_WhoWritesWhichState :
    (ran (.op6XNN 0xE 1) playing).getV 0xE ≠ playing.getV 0xE ∧
    (ran (.op8XY4 1 2) (playing.setV 0xF 7)).getV 0xF ≠ (playing.setV 0xF 7).getV 0xF ∧
    (ran (.op1NNN 0xABC) playing).pc ≠ playing.pc ∧
    (ran (.opANNN 1) playing).i ≠ playing.i ∧ (ran (.op2NNN 1) playing).sp ≠ playing.sp ∧
    (ran (.opFX15 1) (playing.setV 1 1)).dt ≠ playing.dt ∧
    (ran (.opFX18 1) (playing.setV 1 1)).st ≠ playing.st ∧
    (ran (.opFX33 1) (playing.setI 0x300 |>.setV 1 0xFE)).memRead 0x300 ≠ playing.memRead 0x300 ∧
    (ran (.opDXYN 0 0 1) playing).fb.pixel 0 0 ≠ playing.fb.pixel 0 0 ∧
    (ran (.opCXNN 1 0) playing).draws ≠ playing.draws := by decide

theorem witness_NoInstructionReadsTheSoundTimer :
    exec (.opFX07 1) playing = .next (ran (.opFX07 1) playing) := rfl

/-- At an ordinary depth and at SP = 15, where the push wraps. -/
theorem witness_ReturnComesBackToTheCaller :
    exec (.op2NNN 0x300) playing = .next (ran (.op2NNN 0x300) playing) ∧
    exec (.op2NNN 0x300) (playing.setSp 15) = .next (ran (.op2NNN 0x300) (playing.setSp 15)) ∧
    (ran (.op2NNN 0x300) (playing.setSp 15)).sp = 0 := ⟨rfl, rfl, by decide⟩

/-- The premises on a register number in `CopyAndLogic` and `RandomByteIsMasked`: other than F, and F. -/
theorem witness_CopyAndLogic :
    ((0x1 : Nibble) ≠ 0xF) ∧ ((0x2 : Nibble) ≠ 0x1 ∨ (0x1 : Nibble) = 0xF) ∧
    ((0xF : Nibble) ≠ 0xF ∨ (0xF : Nibble) = 0xF) := by decide

theorem witness_RandomByteIsMasked :
    (0xE : Nibble) ≠ 0xF ∧ ({ playing with rnd := [0xA5] }).rnd = 0xA5 :: [] := ⟨by decide, rfl⟩

/-- An address outside the three stored bytes, also where they wrap. -/
theorem witness_DecimalDigitsAreStored :
    (∀ k < 3, 0x303 % 4096 ≠ (playing.setI 0x300).ea k) ∧
    (∀ k < 3, 0x002 % 4096 ≠ (playing.setI 0xFFF).ea k) := by decide

theorem witness_RegistersAreStored :
    (0xF : Nibble).toNat ≤ (0xF : Nibble).toNat ∧
    (∀ k : Nibble, k.toNat ≤ (0xF : Nibble).toNat → 0x310 % 4096 ≠ (playing.setI 0x300).ea k.toNat) := by
  decide

theorem witness_RegistersAreLoaded :
    ((0xE : Nibble).toNat ≤ (0xF : Nibble).toNat ∧ (0xE : Nibble) ≠ 0xF) ∧
    ¬((0xF : Nibble).toNat ≤ (0xF : Nibble).toNat ∧ (0xF : Nibble) ≠ 0xF) := by decide

theorem witness_LoadingBackRestoresTheRegisters :
    exec (.opFX55 0xF) playing = .next (ran (.opFX55 0xF) playing) ∧ (0xE : Nibble) ≠ 0xF ∧
    (0xE : Nibble).toNat ≤ (0xF : Nibble).toNat := ⟨rfl, by decide, by decide⟩

/-- FX55: its last byte but one is the high half of the next word, its last byte the low half. -/
theorem witness_StoredCodeIsFetched :
    exec (.opFX55 0xF) (playing.setI 0x1F2) = .next (ran (.opFX55 0xF) (playing.setI 0x1F2)) ∧
    (0xF : Nibble).toNat ≤ (0xF : Nibble).toNat ∧
    (playing.setI 0x1F2).ea 0xE = (ran (.opFX55 0xF) (playing.setI 0x1F2)).pc.toNat ∧
    (playing.setI 0x1F2).ea 0xF = ((ran (.opFX55 0xF) (playing.setI 0x1F2)).pc.toNat + 1) % 4096 :=
  ⟨rfl, by decide, by decide, by decide⟩

/-- FX33, with the word across the top of memory. -/
theorem witness_StoredCodeIsFetched_FX33 :
    exec (.opFX33 1) ((playing.setPc 0xFFF).setI 0xFFE) =
      .next (ran (.opFX33 1) ((playing.setPc 0xFFF).setI 0xFFE)) ∧
    ((playing.setPc 0xFFF).setI 0xFFE).ea 1 = 0xFFF ∧
    ((playing.setPc 0xFFF).setI 0xFFE).ea 2 = (0xFFF + 1) % 4096 := ⟨rfl, by decide, by decide⟩

/-- A fetch that the store does not reach, in either half. -/
theorem witness_StoredCodeIsFetched_elsewhere :
    (∀ k : Nibble, k.toNat ≤ (0xF : Nibble).toNat → (playing.setI 0x300).ea k.toNat ≠ 0x200 ∧
      (playing.setI 0x300).ea k.toNat ≠ (0x200 + 1) % 4096) ∧
    (∀ k < 3, (playing.setI 0x300).ea k ≠ 0x200 ∧ (playing.setI 0x300).ea k ≠ (0x200 + 1) % 4096) := by
  decide

/-- Two memories listed in different orders of writing. -/
theorem witness_CanonicalMemoryIsUnique :
    Memory.wf Config.defaultFont [(0x000, 0x00), (0x300, 0x01)] = true ∧
    Memory.wf Config.defaultFont
      (Memory.write Config.defaultFont (Memory.write Config.defaultFont [] 0x300 0x01) 0x000 0x00) = true ∧
    Memory.write Config.defaultFont (Memory.write Config.defaultFont [] 0x300 0x01) 0x000 0x00 =
      [(0x000, 0x00), (0x300, 0x01)] := by decide

/-- A pixel a sprite covers and one it does not, at the last column and row, and both premises of the
collision. -/
theorem witness_SpriteDrawTogglesItsPixels :
    63 < 64 ∧ 31 < 32 ∧ playing.SpriteCovers 63 31 1 63 31 ∧ ¬ playing.SpriteCovers 63 31 0 63 31 ∧
    (∃ px py, (playing.setFb (Grid.cleared.flip 63 31)).SpriteCovers 63 31 1 px py ∧
      (playing.setFb (Grid.cleared.flip 63 31)).fb.pixel px py = true) ∧
    (∀ px py, playing.SpriteCovers 63 31 0 px py → playing.fb.pixel px py = false) := by
  refine ⟨by decide, by decide, ⟨0, by decide, 0, by decide, by decide⟩, ?_,
    ⟨63, 31, ⟨0, by decide, 0, by decide, by decide⟩, by decide⟩, ?_⟩
  · rintro ⟨_, h, _⟩
    exact Nat.not_lt_zero _ h
  · rintro _ _ ⟨_, h, _⟩
    exact absurd h (Nat.not_lt_zero _)

/-- The place of the first draw, from V0 and V1 and from VF. -/
def placed : State := (playing.setV 0xF 2).setV 1 2

/-- A first draw that sets a pixel (glyph 0 on a clear display) with the second right after it, and one from VF
with the second from V1, which still holds VF's old value. -/
theorem witness_DrawingTwiceRestoresTheDisplay :
    (exec (.opDXYN 0 1 1) placed = .next (ran (.opDXYN 0 1 1) placed) ∧
      (ran (.opDXYN 0 1 1) placed).getV 0 = placed.getV 0 ∧
      (ran (.opDXYN 0 1 1) placed).getV 1 = placed.getV 1) ∧
    (exec (.opDXYN 0xF 0xF 1) placed = .next (ran (.opDXYN 0xF 0xF 1) placed) ∧
      (ran (.opDXYN 0xF 0xF 1) placed).getV 1 = placed.getV 0xF) ∧
    (∃ px py, placed.fb.pixel px py = false ∧ (ran (.opDXYN 0 1 1) placed).fb.pixel px py = true) :=
  ⟨⟨rfl, by decide, by decide⟩, ⟨rfl, by decide⟩, 0, 2, by decide, by decide⟩

/-- A first draw that sets none (no rows). -/
theorem witness_DrawingTwiceRestoresTheDisplay_none :
    exec (.opDXYN 0 1 0) playing = .next (ran (.opDXYN 0 1 0) playing) ∧
    ¬ ∃ px py, playing.fb.pixel px py = false ∧ (ran (.opDXYN 0 1 0) playing).fb.pixel px py = true := by
  refine ⟨rfl, ?_⟩
  rintro ⟨px, py, h, h'⟩
  exact absurd (h.symm.trans h') (by decide)

theorem witness_GetFrameAnswersTheGrid :
    (playing.setHost [.getFrame]).host = [.getFrame] ∧
    (State.reset.setHost [.getFrame]).host = [.getFrame] := ⟨rfl, rfl⟩

/-- The lowest held key in the middle, and at the end of the range. -/
theorem witness_KeyWaitTakesTheLowestKey :
    (((playing.keyDown 9).keyDown 2).keys[2] = true ∧
      ∀ j, (hj : j < 2) → ((playing.keyDown 9).keyDown 2).keys[j]'(Nat.lt_trans hj (by decide)) = false) ∧
    ((playing.keyDown 15).keys[15] = true ∧
      ∀ j, (hj : j < 15) → (playing.keyDown 15).keys[j]'(Nat.lt_trans hj (by decide)) = false) := by decide

theorem witness_KeyWaitRepeats :
    (∀ k, (hk : k < 16) → (start 0xF30A).keys[k] = false) ∧ (start 0xF30A).host = [] ∧
    (start 0xF30A).run = true ∧ decode (start 0xF30A).fetch = .ok (.opFX0A 3) := by decide

/-- Both commands at the last id. -/
theorem witness_KeyCommandsChangeOneKey :
    15 < 16 ∧ (State.reset.setHost [.keyDown 15]).host = [.keyDown 15] ∧
    (State.reset.setHost [.keyUp 15]).host = [.keyUp 15] := ⟨by decide, rfl, rfl⟩

/-- A FRAME with RUN false; one on the step of ST from 2 to 1; one that finds ST at 1. -/
theorem witness_FrameRendersAndCountsDown :
    ((State.reset.setHost [.frame]).host = [.frame] ∧ (State.reset.setHost [.frame]).run = false) ∧
    (((playing.setSt 2).setHost [.frame]).host = [.frame] ∧ ((playing.setSt 2).setHost [.frame]).run = true) ∧
    (((playing.setSt 1).setHost [.frame]).host = [.frame] ∧
      ((playing.setSt 1).setHost [.frame]).run = true) := ⟨⟨rfl, rfl⟩, ⟨rfl, rfl⟩, rfl, rfl⟩

/-- A step that emits each of the three events. -/
theorem witness_EventsComeOnlyFromTheirCauses :
    (∃ t, step ((playing.setSt 2).setHost [.frame]) = .next t ∧ t.events.count .toneStart = 1 ∧
      .render playing.fb ∈ t.events) ∧
    (∃ t, step (start 0xFFFF) = .next t ∧ .fatal 0xFFFF ∈ t.events) := by
  refine ⟨⟨_, rfl, ?_, ?_⟩, ⟨_, rfl, ?_⟩⟩ <;> decide

theorem witness_TimersReachZeroAfterTheirFrames :
    ((playing.setDt 3).setHost [.frame, .frame, .frame]).run = true ∧
    ((playing.setDt 3).setHost [.frame, .frame, .frame]).host = List.replicate 3 .frame := ⟨rfl, rfl⟩

/-- A LOAD, a fatal word, and a command with RUN false. -/
theorem witness_RunIsWrittenOnlyByLoadAndFatal :
    (∃ t, step (State.reset.setHost [.load []]) = .next t ∧ t.run ≠ State.reset.run) ∧
    (∃ t, step (start 0xFFFF) = .next t ∧ (start 0xFFFF).GivesCycle [] ∧ (start 0xFFFF).run = true ∧
      wellFormedWord (start 0xFFFF).fetch = false) ∧
    (∃ t, step (State.reset.setHost [.frame]) = .next t) :=
  ⟨⟨_, rfl, by decide⟩, ⟨_, rfl, .inl ⟨rfl, rfl⟩, rfl, by decide⟩, ⟨_, rfl⟩⟩

/-- A key command changes KEYS; a draw changes FB. -/
theorem witness_WhoChangesKeysAndDisplay :
    (∃ t, step (State.reset.setHost [.keyDown 3]) = .next t ∧ t.isPressed 3 ≠ State.reset.isPressed 3) ∧
    (∃ t, step (start 0xD011) = .next t ∧ t.fb.pixel 0 0 ≠ (start 0xD011).fb.pixel 0 0) :=
  ⟨⟨_, rfl, by decide⟩, ⟨_, rfl, by decide⟩⟩

/-- The shortest and the longest image. -/
theorem witness_LoadResetsTheBlock :
    ((State.reset.setHost [.load []]).host = [.load []] ∧ ([] : List Byte).length ≤ 0x0E00) ∧
    ((State.reset.setHost [.load (.replicate 0x0E00 1)]).host = [.load (.replicate 0x0E00 1)] ∧
      (List.replicate 0x0E00 (1 : Byte)).length ≤ 0x0E00) :=
  ⟨⟨rfl, by decide⟩, rfl, by rw [List.length_replicate]⟩

/-- The clauses of an image of one byte: its byte, the bytes after it, the last byte of memory. -/
theorem witness_LoadResetsTheBlock_addresses :
    0x4F < 0x50 ∧ (0x50 ≤ 0x1FF ∧ 0x1FF < 0x200) ∧ 0 < [(0xAB : Byte)].length ∧
    (0x200 + [(0xAB : Byte)].length ≤ 0x201 ∧ 0x201 < 0x1000) ∧
    (0x200 + [(0xAB : Byte)].length ≤ 0xFFF ∧ 0xFFF < 0x1000) := by decide

/-- Two different states that agree on the model's own fields. -/
theorem witness_LoadForgetsTheBlock :
    (State.reset.setHost [.load [1]]).host = [.load [1]] ∧
    ((State.reset.setV 1 9).setHost [.load [1]]).host = [.load [1]] ∧
    (State.reset.setHost [.load [1]]).font = ((State.reset.setV 1 9).setHost [.load [1]]).font ∧
    (State.reset.setHost [.load [1]]).cyclesPerFrame =
      ((State.reset.setV 1 9).setHost [.load [1]]).cyclesPerFrame ∧
    (State.reset.setHost [.load [1]]).rnd = ((State.reset.setV 1 9).setHost [.load [1]]).rnd ∧
    (State.reset.setHost [.load [1]]).draws = ((State.reset.setV 1 9).setHost [.load [1]]).draws ∧
    (State.reset.setHost [.load [1]]).events = ((State.reset.setV 1 9).setHost [.load [1]]).events :=
  ⟨rfl, rfl, rfl, rfl, rfl, rfl, rfl⟩

/-- The first length and the first id that break the duty. -/
theorem witness_BrokenHostDutiesAreRefused :
    ((State.reset.setHost [.load (.replicate 0x0E01 1)]).host = [.load (.replicate 0x0E01 1)] ∧
      0x0E00 < (List.replicate 0x0E01 (1 : Byte)).length) ∧
    ((State.reset.setHost [.keyDown 16]).host = [.keyDown 16] ∧
      (State.reset.setHost [.keyUp 16]).host = [.keyUp 16] ∧ 0xF < 16) :=
  ⟨⟨rfl, by rw [List.length_replicate]; decide⟩, rfl, rfl, by decide⟩

theorem witness_StateAfterConstruction : 79 < 80 ∧ (80 ≤ 80 ∧ 80 < 4096) ∧ (80 ≤ 4095 ∧ 4095 < 4096) := by
  decide

theorem witness_EveryStepKeepsTheInvariant :
    State.Inv ((start 0xF133).setI 0xFFF) ∧ (∃ t, step ((start 0xF133).setI 0xFFF) = .next t) :=
  ⟨⟨by decide, by decide⟩, ⟨_, rfl⟩⟩

theorem witness_RunsNeverStop :
    State.HostKeepsDuties (State.reset.setHost [.load [0x12, 0x00], .keyDown 15, .keyUp 15, .cycle, .frame]) := by
  intro c hc
  have hc : c ∈ ([.load [0x12, 0x00], .keyDown 15, .keyUp 15, .cycle, .frame] : List Command) := hc
  revert c
  decide

theorem witness_StepsRunTheHostsCommandsInOrder : playing.host = [] := rfl

theorem witness_TickIsItsCyclesThenAFrame : playing.host = [] ∧ playing.cyclesPerFrame = 10 := ⟨rfl, rfl⟩

/-- The three cases of `ErrorKindsAndTheirCauses`: not playing, an illegal word, and neither. -/
theorem witness_ErrorKindsAndTheirCauses :
    State.reset.error true = some .notPlaying ∧ (start 0xFFFF).error true = some .undefinedOpcode ∧
    (start 0xFFFF).error false = none := by decide

end Sys2Proof.Tests
end

section
/-! PROOF. Encoding (spec/30_encoding.md): the six fields of a word as numbers and how they overlap
(R71), and the two forms whose low nibble is ignored (R76). -/

namespace Sys2Proof

open Sys2Proof.Machine

/-! ### The fields of a word, as numbers (R71) -/

theorem toNat_opClass (w : Word) : (Word.opClass w).toNat = w.toNat / 4096 := by
  have := w.isLt
  rw [Word.opClass, BitVec.extractLsb'_toNat, Nat.shiftRight_eq_div_pow]
  omega

theorem toNat_fieldX (w : Word) : (Word.fieldX w).toNat = w.toNat / 256 % 16 := by
  rw [Word.fieldX, BitVec.extractLsb'_toNat, Nat.shiftRight_eq_div_pow]

theorem toNat_fieldY (w : Word) : (Word.fieldY w).toNat = w.toNat / 16 % 16 := by
  rw [Word.fieldY, BitVec.extractLsb'_toNat, Nat.shiftRight_eq_div_pow]

theorem toNat_fieldN (w : Word) : (Word.fieldN w).toNat = w.toNat % 16 := by
  rw [Word.fieldN, BitVec.extractLsb'_toNat, Nat.shiftRight_zero]

theorem toNat_fieldNN (w : Word) : (Word.fieldNN w).toNat = w.toNat % 256 := by
  rw [Word.fieldNN, BitVec.extractLsb'_toNat, Nat.shiftRight_zero]

theorem toNat_fieldNNN (w : Word) : (Word.fieldNNN w).toNat = w.toNat % 4096 := by
  rw [Word.fieldNNN, BitVec.extractLsb'_toNat, Nat.shiftRight_zero]

/-! ### How the fields overlap (R71)

A word is its class, X, Y and N in a row (`wordXYN_fields`), and that row is also a word of format XNN
with NN = `{Y, N}` and one of format A with NNN = `{X, Y, N}`. -/

theorem fieldNN_eq_append (w : Word) : Word.fieldNN w = Word.fieldY w ++ Word.fieldN w :=
  calc Word.fieldNN w
      = Word.fieldNN (wordXYN (Word.opClass w) (Word.fieldX w) (Word.fieldY w) (Word.fieldN w)) := by
        rw [wordXYN_fields]
    _ = Word.fieldY w ++ Word.fieldN w := fieldNN_wordXNN _ _ (Word.fieldY w ++ Word.fieldN w)

theorem fieldNNN_eq_append (w : Word) :
    Word.fieldNNN w = Word.fieldX w ++ (Word.fieldY w ++ Word.fieldN w) :=
  calc Word.fieldNNN w
      = Word.fieldNNN (wordXYN (Word.opClass w) (Word.fieldX w) (Word.fieldY w) (Word.fieldN w)) := by
        rw [wordXYN_fields]
    _ = Word.fieldX w ++ (Word.fieldY w ++ Word.fieldN w) :=
        fieldNNN_wordA _ (Word.fieldX w ++ (Word.fieldY w ++ Word.fieldN w))

/-- Settles O7: each field is its shift and remainder, and the overlaps are the formats XNN and A read
off a word put together from its four nibbles. -/
theorem fieldsOfAWord : Obligations.FieldsOfAWord := fun w =>
  ⟨toNat_opClass w, toNat_fieldX w, toNat_fieldY w, toNat_fieldN w, toNat_fieldNN w,
    toNat_fieldNNN w, fieldNN_eq_append w, fieldNNN_eq_append w⟩

/-! ### Classes 5 and 9 (R76) -/

/-- A class-5 word is legal whatever its low nibble. -/
theorem decode_of_class5 {w : Word} (h : Word.opClass w = 0x5#4) :
    decode w = .ok (.op5XY0 (Word.fieldX w) (Word.fieldY w) (Word.fieldN w)) := by
  simp only [decode, h]

/-- A class-9 word is legal whatever its low nibble. -/
theorem decode_of_class9 {w : Word} (h : Word.opClass w = 0x9#4) :
    decode w = .ok (.op9XY0 (Word.fieldX w) (Word.fieldY w) (Word.fieldN w)) := by
  simp only [decode, h]

theorem decode_wordXYN_class5 (x y n : Nibble) :
    decode (wordXYN 0x5 x y n) = .ok (.op5XY0 x y n) := by
  rw [decode_of_class5 (opClass_wordXYN 0x5 x y n), fieldX_wordXYN, fieldY_wordXYN, fieldN_wordXYN]

theorem decode_wordXYN_class9 (x y n : Nibble) :
    decode (wordXYN 0x9 x y n) = .ok (.op9XY0 x y n) := by
  rw [decode_of_class9 (opClass_wordXYN 0x9 x y n), fieldX_wordXYN, fieldY_wordXYN, fieldN_wordXYN]

theorem exec_op5XY0_lowNibble (x y n m : Nibble) (s : State) :
    exec (.op5XY0 x y n) s = exec (.op5XY0 x y m) s :=
  (exec_op5XY0 s x y n).trans (exec_op5XY0 s x y m).symm

theorem exec_op9XY0_lowNibble (x y n m : Nibble) (s : State) :
    exec (.op9XY0 x y n) s = exec (.op9XY0 x y m) s :=
  (exec_op9XY0 s x y n).trans (exec_op9XY0 s x y m).symm

/-- Settles O8: the words decode to their forms with n as an operand, which no meaning reads. -/
theorem lowNibbleOfClasses5And9IsIgnored : Obligations.LowNibbleOfClasses5And9IsIgnored :=
  fun x y n s =>
    ⟨⟨.op5XY0 x y n, decode_wordXYN_class5 x y n, exec_op5XY0_lowNibble x y n 0 s⟩,
      ⟨.op9XY0 x y n, decode_wordXYN_class9 x y n, exec_op9XY0_lowNibble x y n 0 s⟩⟩

end Sys2Proof
end

section
/-! PROOF. Control flow (spec/41_control_flow.md): the instructions that change PC and nothing else, the
jump (R114) and the four register skips (R110, R116 to R119). -/

namespace Sys2Proof

open Sys2Proof.Machine

/-! ### Handlers that only set PC -/

/-- Restoring VF (R96) is no change after a handler that only sets PC. -/
theorem runHandler_eq_next_setPc {h : State → State} {s : State} {a : Addr} (hs : h s = s.setPc a) :
    runHandler h s = .next (s.setPc a) := by
  have hVF : (h s).getV 0xF = s.getV 0xF := by rw [hs, State.getV_setPc]
  rw [runHandler_eq, State.keepingVF_eq hVF, hs]

/-- An instruction whose handler only sets PC, as the statements of this family put it. -/
theorem exec_changes_only_pc {i : Instr} {h : State → State} {s : State} {a : Addr}
    (hi : exec i s = runHandler h s) (hs : h s = s.setPc a) :
    ∃ t, exec i s = .next t ∧ t = { s with pc := a } ∧ KeepsMemory s t :=
  ⟨s.setPc a, hi.trans (runHandler_eq_next_setPc hs), rfl, s.memRead_setPc a⟩

/-! ### The skip (R110) -/

theorem skipIf_eq_setPc (s : State) (c : Bool) :
    s.skipIf c = s.setPc (if c then s.pc + 2 else s.pc) := by
  cases c <;> rfl

theorem skipIf_beq (s : State) (b b' : Byte) :
    s.skipIf (b == b') = s.setPc (if b = b' then s.pc + 2 else s.pc) := by
  simp only [skipIf_eq_setPc, beq_iff_eq]

theorem skipIf_bne (s : State) (b b' : Byte) :
    s.skipIf (b != b') = s.setPc (if b = b' then s.pc else s.pc + 2) := by
  simp only [skipIf_eq_setPc, bne_iff_ne, ite_not]

/-! ### The statements -/

/-- Settles O18: the handler of a jump is one update of PC. -/
theorem jumpSetsPc : Obligations.JumpSetsPc := fun s nnn =>
  exec_changes_only_pc (exec_op1NNN s nnn) rfl

/-- Settles O23: the handler of a skip is one update of PC, on a comparison for equality in 3XNN and
5XY0 and for inequality in 4XNN and 9XY0. -/
theorem registerSkips : Obligations.RegisterSkips := fun s x y n nn =>
  ⟨exec_changes_only_pc (exec_op3XNN s x nn) (skipIf_beq s (s.getV x) nn),
    exec_changes_only_pc (exec_op4XNN s x nn) (skipIf_bne s (s.getV x) nn),
    exec_changes_only_pc (exec_op5XY0 s x y n) (skipIf_beq s (s.getV x) (s.getV y)),
    exec_changes_only_pc (exec_op9XY0 s x y n) (skipIf_bne s (s.getV x) (s.getV y))⟩

end Sys2Proof
end

section
/-! PROOF. Registers and ALU (spec/42_register_alu.md): the instructions that write one register and no
flag (R131 to R136). -/

namespace Sys2Proof

open Sys2Proof.Machine

/-! ### Handlers that only set Vx -/

/-- Under the discipline of R96 a handler that writes Vx alone sets it, except that a write to VF is
undone. -/
theorem getV_keepingVF_of_getV {h : State → State} {s : State} {x : Nibble} {b : Byte} {z : Nibble}
    (hz : (h s).getV z = if z = x then b else s.getV z) :
    (s.keepingVF h).getV z = if z = x ∧ x ≠ 0xF then b else s.getV z := by
  rw [State.getV_keepingVF, hz]
  by_cases hF : z = 0xF
  · rw [if_pos hF, if_neg fun ⟨hzx, hx⟩ => hx (hzx ▸ hF), hF]
  · have hcond : z = x ∧ x ≠ 0xF ↔ z = x := and_iff_left_of_imp fun hzx => hzx ▸ hF
    simp only [if_neg hF, hcond]

/-- An instruction whose handler only sets Vx, as the statements of this family put it. -/
theorem exec_changes_only_vx {i : Instr} {h : State → State} {s : State} {x : Nibble} {b : Byte}
    (hi : exec i s = runHandler h s) (hs : h s = s.setV x b) :
    ∃ t, exec i s = .next t ∧ t = { s with v := t.v } ∧ KeepsMemory s t ∧
      ∀ z, t.getV z = if z = x ∧ x ≠ 0xF then b else s.getV z := by
  have hval (z : Nibble) := getV_keepingVF_of_getV (z := z) (hs ▸ s.getV_setV x z b)
  refine ⟨s.keepingVF h, hi.trans (runHandler_eq s h), ?_, fun n => ?_, hval⟩
  · rw [State.keepingVF, hs]
    rfl
  · rw [State.memRead_keepingVF, hs, State.memRead_setV]

/-- The same with the value of Vx told bit by bit. -/
theorem exec_changes_only_vx_bits {i : Instr} {h : State → State} {s : State} {x : Nibble}
    {b : Byte} {bit : Nat → Bool}
    (hi : exec i s = runHandler h s) (hs : h s = s.setV x b) (hbit : ∀ k, b.getLsbD k = bit k) :
    ∃ t, exec i s = .next t ∧ t = { s with v := t.v } ∧ KeepsMemory s t ∧
      (∀ z, z ≠ x ∨ x = 0xF → t.getV z = s.getV z) ∧
      (x ≠ 0xF → ∀ k, (t.getV x).getLsbD k = bit k) := by
  obtain ⟨t, hnext, hframe, hmem, hval⟩ := exec_changes_only_vx hi hs
  refine ⟨t, hnext, hframe, hmem, fun z hz => ?_, fun hx k => ?_⟩
  · rw [hval, if_neg (by tauto)]
  · rw [hval, if_pos ⟨rfl, hx⟩, hbit]

/-! ### The statements -/

/-- The sum modulo 256 of R132 is the sum of two bytes. -/
theorem byte_add_eq_ofNat_mod (b c : Byte) : b + c = BitVec.ofNat 8 ((b.toNat + c.toNat) % 256) :=
  BitVec.eq_of_toNat_eq (by simp)

/-- Settles O24: either handler is one update of Vx, to the immediate and to the sum of bytes. -/
theorem immediateLoadAndAdd : Obligations.ImmediateLoadAndAdd := fun s x nn =>
  ⟨exec_changes_only_vx (exec_op6XNN s x nn) rfl,
    byte_add_eq_ofNat_mod (s.getV x) nn ▸ exec_changes_only_vx (exec_op7XNN s x nn) rfl⟩

/-- Settles O25: each handler is one update of Vx, to Vy or to the bitwise operation on Vx and Vy. -/
theorem copyAndLogic : Obligations.CopyAndLogic := fun s x y =>
  ⟨exec_changes_only_vx (exec_op8XY0 s x y) rfl,
    exec_changes_only_vx_bits (exec_op8XY1 s x y) rfl fun _ => BitVec.getLsbD_or,
    exec_changes_only_vx_bits (exec_op8XY2 s x y) rfl fun _ => BitVec.getLsbD_and,
    exec_changes_only_vx_bits (exec_op8XY3 s x y) rfl fun _ => BitVec.getLsbD_xor⟩

end Sys2Proof
end

section
/-! PROOF. The address register (spec/43_memory_index.md): the instructions that write I and nothing
else (R160 to R162). -/

namespace Sys2Proof

open Sys2Proof.Machine

/-! ### Handlers that only set I -/

/-- Restoring VF (R96) is no change after a handler that only sets I. -/
theorem runHandler_eq_next_setI {h : State → State} {s : State} {w : Word} (hs : h s = s.setI w) :
    runHandler h s = .next (s.setI w) := by
  have hVF : (h s).getV 0xF = s.getV 0xF := by rw [hs, State.getV_setI]
  rw [runHandler_eq, State.keepingVF_eq hVF, hs]

/-- An instruction whose handler only sets I, as the statements of this family put it. -/
theorem exec_changes_only_i {i : Instr} {h : State → State} {s : State} {w : Word}
    (hi : exec i s = runHandler h s) (hs : h s = s.setI w) :
    ∃ t, exec i s = .next t ∧ t = { s with i := w } ∧ KeepsMemory s t :=
  ⟨s.setI w, hi.trans (runHandler_eq_next_setI hs), rfl, s.memRead_setI w⟩

/-! ### The statement -/

/-- The zero extension of R160 keeps the number. -/
theorem zext16_eq_ofNat (nnn : Addr) : zext16 nnn = BitVec.ofNat 16 nnn.toNat :=
  (BitVec.ofNat_toNat 16 nnn).symm

/-- Settles O30: each handler is one update of I, to the operand, to the sum modulo the memory size and
to the address of a glyph. -/
theorem addressRegisterWrites : Obligations.AddressRegisterWrites := fun s x nnn =>
  ⟨exec_changes_only_i (exec_opANNN s nnn) (congrArg s.setI (zext16_eq_ofNat nnn)),
    exec_changes_only_i (exec_opFX1E s x) rfl,
    exec_changes_only_i (exec_opFX29 s x) rfl⟩

end Sys2Proof
end

section
/-! PROOF. The display (spec/44_display.md): the clear-screen instruction (R183). -/

namespace Sys2Proof

open Sys2Proof.Machine

/-- 00E0 replaces the frame buffer by the cleared grid (R183); restoring VF (R96) is no change, since
its handler does not write VF. -/
theorem exec_op00E0_eq_next (s : State) : exec .op00E0 s = .next (s.setFb Grid.cleared) := by
  have hVF : (s.setFb Grid.cleared).getV 0xF = s.getV 0xF := s.getV_setFb Grid.cleared 0xF
  rw [exec_op00E0, runHandler_eq, State.keepingVF_eq hVF]

/-- Settles O37: the one update is of the frame buffer, to the grid whose pixels are all false. -/
theorem clearScreen : Obligations.ClearScreen := fun s =>
  ⟨s.setFb Grid.cleared, exec_op00E0_eq_next s, rfl, s.memRead_setFb Grid.cleared,
    Grid.pixel_cleared⟩

end Sys2Proof
end

section
/-! PROOF. Input and timers (spec/45_input_timers.md): the instructions that move a byte between Vx and
a timer (R205 to R207). -/

namespace Sys2Proof

open Sys2Proof.Machine

/-! ### Handlers that leave VF alone -/

/-- An instruction whose handler leaves VF alone ends in the handler's own state: restoring VF (R96) is
no change. -/
theorem exec_eq_next_of_getV_VF_eq {i : Instr} {h : State → State} {s : State}
    (hi : exec i s = runHandler h s) (hVF : (h s).getV 0xF = s.getV 0xF) :
    exec i s = .next (h s) := by
  rw [hi, runHandler_eq, State.keepingVF_eq hVF]

/-- FX15 is one update of DT (R206). -/
theorem exec_opFX15_eq_next (s : State) (x : Nibble) :
    exec (.opFX15 x) s = .next (s.setDt (s.getV x)) :=
  exec_eq_next_of_getV_VF_eq (exec_opFX15 s x) (s.getV_setDt (s.getV x) 0xF)

/-- FX18 is one update of ST, with no event (R207). -/
theorem exec_opFX18_eq_next (s : State) (x : Nibble) :
    exec (.opFX18 x) s = .next (s.setSt (s.getV x)) :=
  exec_eq_next_of_getV_VF_eq (exec_opFX18 s x) (s.getV_setSt (s.getV x) 0xF)

/-! ### The statement -/

/-- Settles O44: FX07 is one update of Vx, undone for VF, and FX15 and FX18 are one update of a timer. -/
theorem timerRegisterMoves : Obligations.TimerRegisterMoves := fun s x =>
  ⟨exec_changes_only_vx (exec_opFX07 s x) rfl,
    ⟨s.setDt (s.getV x), exec_opFX15_eq_next s x, rfl, s.memRead_setDt (s.getV x)⟩,
    ⟨s.setSt (s.getV x), exec_opFX18_eq_next s x, rfl, s.memRead_setSt (s.getV x)⟩⟩

end Sys2Proof
end

section
/-! PROOF. Exceptions (spec/60_exceptions.md): every instruction completes from every state (R222). -/

namespace Sys2Proof

open Sys2Proof.Machine

/-! ### RUN and the events kept -/

/-- `t` has the RUN of `s`, and no event was emitted on the way to it. -/
def KeepsRunAndEvents (s t : State) : Prop := t.run = s.run ∧ t.events = s.events

theorem keepsRunAndEvents_skipIf (s : State) (c : Bool) : KeepsRunAndEvents s (s.skipIf c) :=
  ⟨s.run_skipIf c, s.events_skipIf c⟩

theorem keepsRunAndEvents_storeFrom (s : State) (k : Nat) (bytes : List Byte) :
    KeepsRunAndEvents s (s.storeFrom k bytes) :=
  ⟨s.run_storeFrom k bytes, s.events_storeFrom k bytes⟩

/-! ### From the handler to the instruction -/

/-- Restoring VF (R96) touches neither RUN nor the events, so only the handler's state counts. -/
theorem exec_completes_of_runHandler {i : Instr} {h : State → State} {s : State}
    (hi : exec i s = runHandler h s) (hh : KeepsRunAndEvents s (h s)) :
    ∃ t, exec i s = .next t ∧ KeepsRunAndEvents s t := by
  obtain ⟨hrun, hevents⟩ := hh
  exact ⟨s.keepingVF h, hi.trans (runHandler_eq s h),
    (s.run_keepingVF h).trans hrun, (s.events_keepingVF h).trans hevents⟩

/-- A flag-defining instruction ends in its handler's own state (R98). -/
theorem exec_completes_of_runFlagHandler {i : Instr} {h : State → State} {s : State}
    (hi : exec i s = runFlagHandler h s) (hh : KeepsRunAndEvents s (h s)) :
    ∃ t, exec i s = .next t ∧ KeepsRunAndEvents s t :=
  ⟨h s, hi.trans (runFlagHandler_eq s h), hh⟩

/-- Every instruction answers a next state. Where the handler is a fixed sequence of field updates, RUN and
the events are unchanged by definition; the skips and the stores have a lemma above, and the wait for a
key is two cases. -/
theorem exec_completes (i : Instr) (s : State) :
    ∃ t, exec i s = .next t ∧ KeepsRunAndEvents s t := by
  cases i with
  | op00E0 => exact exec_completes_of_runHandler (exec_op00E0 s) ⟨rfl, rfl⟩
  | op00EE => exact exec_completes_of_runHandler (exec_op00EE s) ⟨rfl, rfl⟩
  | op1NNN nnn => exact exec_completes_of_runHandler (exec_op1NNN s nnn) ⟨rfl, rfl⟩
  | op2NNN nnn => exact exec_completes_of_runHandler (exec_op2NNN s nnn) ⟨rfl, rfl⟩
  | op3XNN x nn =>
    exact exec_completes_of_runHandler (exec_op3XNN s x nn) (keepsRunAndEvents_skipIf ..)
  | op4XNN x nn =>
    exact exec_completes_of_runHandler (exec_op4XNN s x nn) (keepsRunAndEvents_skipIf ..)
  | op5XY0 x y n =>
    exact exec_completes_of_runHandler (exec_op5XY0 s x y n) (keepsRunAndEvents_skipIf ..)
  | op6XNN x nn => exact exec_completes_of_runHandler (exec_op6XNN s x nn) ⟨rfl, rfl⟩
  | op7XNN x nn => exact exec_completes_of_runHandler (exec_op7XNN s x nn) ⟨rfl, rfl⟩
  | op8XY0 x y => exact exec_completes_of_runHandler (exec_op8XY0 s x y) ⟨rfl, rfl⟩
  | op8XY1 x y => exact exec_completes_of_runHandler (exec_op8XY1 s x y) ⟨rfl, rfl⟩
  | op8XY2 x y => exact exec_completes_of_runHandler (exec_op8XY2 s x y) ⟨rfl, rfl⟩
  | op8XY3 x y => exact exec_completes_of_runHandler (exec_op8XY3 s x y) ⟨rfl, rfl⟩
  | op8XY4 x y => exact exec_completes_of_runFlagHandler (exec_op8XY4 s x y) ⟨rfl, rfl⟩
  | op8XY5 x y => exact exec_completes_of_runFlagHandler (exec_op8XY5 s x y) ⟨rfl, rfl⟩
  | op8XY6 x y => exact exec_completes_of_runFlagHandler (exec_op8XY6 s x y) ⟨rfl, rfl⟩
  | op8XY7 x y => exact exec_completes_of_runFlagHandler (exec_op8XY7 s x y) ⟨rfl, rfl⟩
  | op8XYE x y => exact exec_completes_of_runFlagHandler (exec_op8XYE s x y) ⟨rfl, rfl⟩
  | op9XY0 x y n =>
    exact exec_completes_of_runHandler (exec_op9XY0 s x y n) (keepsRunAndEvents_skipIf ..)
  | opANNN nnn => exact exec_completes_of_runHandler (exec_opANNN s nnn) ⟨rfl, rfl⟩
  | opBNNN nnn => exact exec_completes_of_runHandler (exec_opBNNN s nnn) ⟨rfl, rfl⟩
  | opCXNN x nn => exact exec_completes_of_runHandler (exec_opCXNN s x nn) ⟨rfl, rfl⟩
  | opDXYN x y n => exact exec_completes_of_runFlagHandler (exec_opDXYN s x y n) ⟨rfl, rfl⟩
  | opEX9E x => exact exec_completes_of_runHandler (exec_opEX9E s x) (keepsRunAndEvents_skipIf ..)
  | opEXA1 x => exact exec_completes_of_runHandler (exec_opEXA1 s x) (keepsRunAndEvents_skipIf ..)
  | opFX07 x => exact exec_completes_of_runHandler (exec_opFX07 s x) ⟨rfl, rfl⟩
  | opFX0A x =>
    refine exec_completes_of_runHandler (exec_opFX0A s x) ?_
    cases s.anyPressed with
    | none => exact ⟨rfl, rfl⟩
    | some k => exact ⟨rfl, rfl⟩
  | opFX15 x => exact exec_completes_of_runHandler (exec_opFX15 s x) ⟨rfl, rfl⟩
  | opFX18 x => exact exec_completes_of_runHandler (exec_opFX18 s x) ⟨rfl, rfl⟩
  | opFX1E x => exact exec_completes_of_runHandler (exec_opFX1E s x) ⟨rfl, rfl⟩
  | opFX29 x => exact exec_completes_of_runHandler (exec_opFX29 s x) ⟨rfl, rfl⟩
  | opFX33 x =>
    exact exec_completes_of_runHandler (exec_opFX33 s x) (keepsRunAndEvents_storeFrom ..)
  | opFX55 x =>
    exact exec_completes_of_runHandler (exec_opFX55 s x) (keepsRunAndEvents_storeFrom ..)
  | opFX65 x => exact exec_completes_of_runHandler (exec_opFX65 s x) ⟨rfl, rfl⟩

/-! ### The statement -/

/-- Settles O14: by cases on the instruction, each of which runs a handler that writes neither RUN nor the
events. -/
theorem everyInstructionCompletes : Obligations.EveryInstructionCompletes := exec_completes

end Sys2Proof
end

section
/-! PROOF. Encoding (spec/30_encoding.md): the decoder and the encoder are inverse to each other on the
instructions and the legal words (R71 to R77), and the decoder refuses exactly the illegal words (R79 to
R81). -/

namespace Sys2Proof

open Sys2Proof.Machine

/-! ### The classes with a secondary dispatch (R74, R75) -/

section
variable {w : Word}

theorem decode_of_class8 (h : Word.opClass w = 0x8) : decode w = decodeClass8 w := by
  simp only [decode, h, BitVec.ofNat_eq_ofNat]

theorem decode_of_classE (h : Word.opClass w = 0xE) : decode w = decodeClassE w := by
  simp only [decode, h, BitVec.ofNat_eq_ofNat]

/-- Class F is the decoder's last branch, for a class that is none of the others. -/
theorem decode_of_classF (h : Word.opClass w = 0xF) : decode w = decodeClassF w := by
  rw [decode, h]
  rfl

end

/-! ### Decoding what the encoder builds -/

/-- By the format of the word (R73): the decoder reads back the class, and with it the fields the format
is made of. -/
theorem decode_encode (i : Instr) : decode (encode i) = .ok i := by
  cases i with
  | op00E0 | op00EE => rfl
  | op1NNN nnn | op2NNN nnn | opANNN nnn | opBNNN nnn =>
    simp only [encode, BitVec.ofNat_eq_ofNat, decode, opClass_wordA, fieldNNN_wordA]
  | op3XNN x nn | op4XNN x nn | op6XNN x nn | op7XNN x nn | opCXNN x nn =>
    simp only [encode, BitVec.ofNat_eq_ofNat, decode, opClass_wordXNN, fieldX_wordXNN,
      fieldNN_wordXNN]
  | op5XY0 x y n | op9XY0 x y n | opDXYN x y n =>
    simp only [encode, BitVec.ofNat_eq_ofNat, decode, opClass_wordXYN, fieldX_wordXYN,
      fieldY_wordXYN, fieldN_wordXYN]
  | op8XY0 x y | op8XY1 x y | op8XY2 x y | op8XY3 x y | op8XY4 x y | op8XY5 x y | op8XY6 x y
  | op8XY7 x y | op8XYE x y =>
    rw [encode, decode_of_class8 (opClass_wordXYN ..)]
    simp only [BitVec.ofNat_eq_ofNat, decodeClass8, fieldX_wordXYN, fieldY_wordXYN, fieldN_wordXYN]
  | opEX9E x | opEXA1 x =>
    rw [encode, decode_of_classE (opClass_wordXNN ..)]
    simp only [BitVec.ofNat_eq_ofNat, decodeClassE, fieldX_wordXNN, fieldNN_wordXNN]
  | opFX07 x | opFX0A x | opFX15 x | opFX18 x | opFX1E x | opFX29 x | opFX33 x | opFX55 x
  | opFX65 x =>
    rw [encode, decode_of_classF (opClass_wordXNN ..)]
    simp only [BitVec.ofNat_eq_ofNat, decodeClassF, fieldX_wordXNN, fieldNN_wordXNN]

theorem decodeBytes_bytesOfWord {w : Word} {i : Instr} (h : decode w = .ok i) (rest : List Byte) :
    decodeBytes (bytesOfWord w ++ rest) = .ok (i, rest) := by
  simp only [bytesOfWord, List.cons_append, List.nil_append, decodeBytes, wordOfBytes_split, h]

theorem decodeTableWord_toNat {w : Word} {i : Instr} (h : decode w = .ok i) :
    decodeTableWord 16 w.toNat = some i := by
  have hbytes := decodeBytes_bytesOfWord h []
  rw [List.append_nil] at hbytes
  have hword : BitVec.ofNat 16 (w.toNat % 2 ^ 16) = w := by
    rw [Nat.mod_eq_of_lt w.isLt, BitVec.ofNat_toNat, BitVec.setWidth_eq]
  simp only [decodeTableWord, hword, hbytes]

/-- Settles O2: the word decodes by its format, and the bytes and the table's number are laid out so that
the decoder sees that word again. -/
theorem decodeInvertsEncode : Obligations.DecodeInvertsEncode := fun i rest =>
  ⟨decode_encode i, decodeBytes_bytesOfWord (decode_encode i) rest,
    decodeTableWord_toNat (decode_encode i)⟩

/-! ### Encoding what the decoder reads -/

section
variable {w : Word} {i : Instr}

theorem encode_of_decodeClass0 (h : decodeClass0 w = .ok i) : encode i = w := by
  unfold decodeClass0 at h
  split at h <;> cases h <;> rfl

/-- In every branch the word is put together from its class, X, Y and the N the branch is for. -/
theorem encode_of_decodeClass8 (hc : Word.opClass w = 0x8) (h : decodeClass8 w = .ok i) :
    encode i = w := by
  have hw := wordXYN_fields w
  unfold decodeClass8 at h
  split at h <;> cases h
  all_goals (rename_i hn; rw [hc, hn] at hw; exact hw)

/-- In either branch the word is put together from its class, X and the NN the branch is for. -/
theorem encode_of_decodeClassE (hc : Word.opClass w = 0xE) (h : decodeClassE w = .ok i) :
    encode i = w := by
  have hw := wordXNN_fields w
  unfold decodeClassE at h
  split at h <;> cases h
  all_goals (rename_i hnn; rw [hc, hnn] at hw; exact hw)

/-- As in class E. -/
theorem encode_of_decodeClassF (hc : Word.opClass w = 0xF) (h : decodeClassF w = .ok i) :
    encode i = w := by
  have hw := wordXNN_fields w
  unfold decodeClassF at h
  split at h <;> cases h
  all_goals (rename_i hnn; rw [hc, hnn] at hw; exact hw)

/-- By the class: a word of a class that dispatches directly is put together from the fields of its
format. -/
theorem encode_of_decode (h : decode w = .ok i) : encode i = w := by
  have hA := wordA_fields w
  have hXNN := wordXNN_fields w
  have hXYN := wordXYN_fields w
  rcases nibble_cases (Word.opClass w) with
    hc | hc | hc | hc | hc | hc | hc | hc | hc | hc | hc | hc | hc | hc | hc | hc <;>
  simp only [hc, decode] at h hA hXNN hXYN
  · exact encode_of_decodeClass0 h
  · cases h; exact hA
  · cases h; exact hA
  · cases h; exact hXNN
  · cases h; exact hXNN
  · cases h; exact hXYN
  · cases h; exact hXNN
  · cases h; exact hXNN
  · exact encode_of_decodeClass8 hc h
  · cases h; exact hXYN
  · cases h; exact hA
  · cases h; exact hA
  · cases h; exact hXNN
  · cases h; exact hXYN
  · exact encode_of_decodeClassE hc h
  · exact encode_of_decodeClassF hc h

end

/-- Settles O3: a word is put together from its fields (R71), and the decoder keeps every one of them, the
ignored nibbles included. -/
theorem encodeInvertsDecode : Obligations.EncodeInvertsDecode := fun _ _ => encode_of_decode

/-- Settles O1: sixteen closed words. -/
theorem wordsDecodeToTheirInstructions : Obligations.WordsDecodeToTheirInstructions := by
  unfold Obligations.WordsDecodeToTheirInstructions
  decide

/-! ### The legal words (R79) -/

theorem wellFormedWord_encode (i : Instr) : wellFormedWord (encode i) = true := by
  open Laws.EncodeWellFormed in
  cases i with
  | op00E0 => exact op00E0
  | op00EE => exact op00EE
  | op1NNN nnn => exact op1NNN nnn
  | op2NNN nnn => exact op2NNN nnn
  | op3XNN x nn => exact op3XNN x nn
  | op4XNN x nn => exact op4XNN x nn
  | op5XY0 x y n => exact op5XY0 x y n
  | op6XNN x nn => exact op6XNN x nn
  | op7XNN x nn => exact op7XNN x nn
  | op8XY0 x y => exact op8XY0 x y
  | op8XY1 x y => exact op8XY1 x y
  | op8XY2 x y => exact op8XY2 x y
  | op8XY3 x y => exact op8XY3 x y
  | op8XY4 x y => exact op8XY4 x y
  | op8XY5 x y => exact op8XY5 x y
  | op8XY6 x y => exact op8XY6 x y
  | op8XY7 x y => exact op8XY7 x y
  | op8XYE x y => exact op8XYE x y
  | op9XY0 x y n => exact op9XY0 x y n
  | opANNN nnn => exact opANNN nnn
  | opBNNN nnn => exact opBNNN nnn
  | opCXNN x nn => exact opCXNN x nn
  | opDXYN x y n => exact opDXYN x y n
  | opEX9E x => exact opEX9E x
  | opEXA1 x => exact opEXA1 x
  | opFX07 x => exact opFX07 x
  | opFX0A x => exact opFX0A x
  | opFX15 x => exact opFX15 x
  | opFX18 x => exact opFX18 x
  | opFX1E x => exact opFX1E x
  | opFX29 x => exact opFX29 x
  | opFX33 x => exact opFX33 x
  | opFX55 x => exact opFX55 x
  | opFX65 x => exact opFX65 x

theorem wellFormedWord_of_decode {w : Word} {i : Instr} (h : decode w = .ok i) :
    wellFormedWord w = true :=
  encode_of_decode h ▸ wellFormedWord_encode i

section
variable {w : Word}

/-- The legal words of class 0 (R78). -/
theorem wellFormedWord_iff_of_class0 (h : w.toNat / 4096 = 0) :
    wellFormedWord w = true ↔ w.toNat % 4096 ∈ [0x00E0, 0x00EE] := by
  have hmod : w.toNat % 4096 = w.toNat := by omega
  simp [wellFormedWord, illegalClass0, illegalClass8, illegalClassE, illegalClassF, h, hmod]

/-- The legal words of class 8: the nine variants (R75). -/
theorem wellFormedWord_iff_of_class8 (h : w.toNat / 4096 = 8) :
    wellFormedWord w = true ↔ w.toNat % 16 ∈ [0x0, 0x1, 0x2, 0x3, 0x4, 0x5, 0x6, 0x7, 0xE] := by
  simp [wellFormedWord, illegalClass0, illegalClass8, illegalClassE, illegalClassF, h]
  omega

/-- The legal words of class E (R75). -/
theorem wellFormedWord_iff_of_classE (h : w.toNat / 4096 = 14) :
    wellFormedWord w = true ↔ w.toNat % 256 ∈ [0x9E, 0xA1] := by
  simp [wellFormedWord, illegalClass0, illegalClass8, illegalClassE, illegalClassF, h]

/-- The legal words of class F: the nine sub-opcodes (R75). -/
theorem wellFormedWord_iff_of_classF (h : w.toNat / 4096 = 15) :
    wellFormedWord w = true ↔
      w.toNat % 256 ∈ [0x07, 0x0A, 0x15, 0x18, 0x1E, 0x29, 0x33, 0x55, 0x65] := by
  simp [wellFormedWord, illegalClass0, illegalClass8, illegalClassE, illegalClassF, h]

end

/-! ### The verdict on an illegal word (R80, R81)

In each class the last branch of the dispatch has the raw word as its verdict, and it is taken when the
selecting field is none of the legal ones. -/

/-- The decoder's verdict `e` on `w` is the raw word, and `w` is illegal. -/
def IllegalVerdict (w : Word) (e : DecodeError) : Prop :=
  e = .undefinedOpcode w ∧ wellFormedWord w = false

section
variable {w : Word} {e : DecodeError}

theorem illegalVerdict_of_decodeClass0 (hc : Word.opClass w = 0x0) (h : decodeClass0 w = .error e) :
    IllegalVerdict w e := by
  have hdiv : w.toNat / 4096 = 0 := by rw [← toNat_opClass, hc]; rfl
  unfold decodeClass0 at h
  split at h <;> cases h
  refine ⟨rfl, Bool.eq_false_iff.2 fun hw => ?_⟩
  have hlegal := (wellFormedWord_iff_of_class0 hdiv).1 hw
  simp only [List.mem_cons, List.not_mem_nil, or_false, imp_false, BitVec.toNat_eq,
    BitVec.toNat_ofNat] at *
  omega

theorem illegalVerdict_of_decodeClass8 (hc : Word.opClass w = 0x8) (h : decodeClass8 w = .error e) :
    IllegalVerdict w e := by
  have hdiv : w.toNat / 4096 = 8 := by rw [← toNat_opClass, hc]; rfl
  unfold decodeClass8 at h
  split at h <;> cases h
  refine ⟨rfl, Bool.eq_false_iff.2 fun hw => ?_⟩
  have hlegal := (wellFormedWord_iff_of_class8 hdiv).1 hw
  rw [← toNat_fieldN] at hlegal
  simp only [List.mem_cons, List.not_mem_nil, or_false, imp_false, BitVec.toNat_eq,
    BitVec.toNat_ofNat] at *
  omega

theorem illegalVerdict_of_decodeClassE (hc : Word.opClass w = 0xE) (h : decodeClassE w = .error e) :
    IllegalVerdict w e := by
  have hdiv : w.toNat / 4096 = 14 := by rw [← toNat_opClass, hc]; rfl
  unfold decodeClassE at h
  split at h <;> cases h
  refine ⟨rfl, Bool.eq_false_iff.2 fun hw => ?_⟩
  have hlegal := (wellFormedWord_iff_of_classE hdiv).1 hw
  rw [← toNat_fieldNN] at hlegal
  simp only [List.mem_cons, List.not_mem_nil, or_false, imp_false, BitVec.toNat_eq,
    BitVec.toNat_ofNat] at *
  omega

theorem illegalVerdict_of_decodeClassF (hc : Word.opClass w = 0xF) (h : decodeClassF w = .error e) :
    IllegalVerdict w e := by
  have hdiv : w.toNat / 4096 = 15 := by rw [← toNat_opClass, hc]; rfl
  unfold decodeClassF at h
  split at h <;> cases h
  refine ⟨rfl, Bool.eq_false_iff.2 fun hw => ?_⟩
  have hlegal := (wellFormedWord_iff_of_classF hdiv).1 hw
  rw [← toNat_fieldNN] at hlegal
  simp only [List.mem_cons, List.not_mem_nil, or_false, imp_false, BitVec.toNat_eq,
    BitVec.toNat_ofNat] at *
  omega

/-- Only the four classes with a secondary dispatch refuse a word. -/
theorem illegalVerdict_of_decode (h : decode w = .error e) : IllegalVerdict w e := by
  rcases nibble_cases (Word.opClass w) with
    hc | hc | hc | hc | hc | hc | hc | hc | hc | hc | hc | hc | hc | hc | hc | hc <;>
  simp only [hc, decode, reduceCtorEq] at h
  · exact illegalVerdict_of_decodeClass0 hc h
  · exact illegalVerdict_of_decodeClass8 hc h
  · exact illegalVerdict_of_decodeClassE hc h
  · exact illegalVerdict_of_decodeClassF hc h

end

theorem exists_decode_of_wellFormedWord {w : Word} (h : wellFormedWord w = true) :
    ∃ i, decode w = .ok i := by
  cases hd : decode w with
  | ok i => exact ⟨i, rfl⟩
  | error e =>
    obtain ⟨-, hw⟩ := illegalVerdict_of_decode hd
    exact absurd (h.symm.trans hw) (by decide)

theorem decode_eq_error_iff (w : Word) :
    decode w = .error (.undefinedOpcode w) ↔ wellFormedWord w = false := by
  cases hd : decode w with
  | ok i => simp [wellFormedWord_of_decode hd]
  | error e =>
    obtain ⟨rfl, hw⟩ := illegalVerdict_of_decode hd
    exact iff_of_true rfl hw

/-- Settles O4: a word that decodes is the encoding of its instruction and so legal, and a refused one
falls to the last branch of its class. -/
theorem decodeRefusesExactlyTheIllegalWords : Obligations.DecodeRefusesExactlyTheIllegalWords :=
  decode_eq_error_iff

end Sys2Proof
end

section
/-! PROOF. The opcode map (spec/30_encoding.md rule R77): its rows, and how many words are legal (R79). -/

namespace Sys2Proof

/-! ### The three masks of the map -/

theorem nibble_and_allOnes (n : Nibble) : n &&& 0xF#4 = n := BitVec.and_allOnes

theorem byte_and_allOnes (b : Byte) : b &&& 0xFF#8 = b := BitVec.and_allOnes

/-- The mask of formats A, XNN and XYN keeps the class. -/
theorem and_mask_class (w : Word) : w &&& 0xF000 = wordA (Word.opClass w) 0 := by
  rw [← wordA_fields (w &&& 0xF000)]
  simp [Word.opClass, Word.fieldNNN, BitVec.extractLsb'_and, nibble_and_allOnes]

/-- The mask of format XY keeps the class and N. -/
theorem and_mask_class_N (w : Word) :
    w &&& 0xF00F = wordXYN (Word.opClass w) 0 0 (Word.fieldN w) := by
  rw [← wordXYN_fields (w &&& 0xF00F)]
  simp [Word.opClass, Word.fieldX, Word.fieldY, Word.fieldN, BitVec.extractLsb'_and,
    nibble_and_allOnes]

/-- The mask of format XS keeps the class and NN. -/
theorem and_mask_class_NN (w : Word) :
    w &&& 0xF0FF = wordXNN (Word.opClass w) 0 (Word.fieldNN w) := by
  rw [← wordXNN_fields (w &&& 0xF0FF)]
  simp [Word.opClass, Word.fieldX, Word.fieldNN, BitVec.extractLsb'_and, nibble_and_allOnes,
    byte_and_allOnes]

/-! ### The row of an instruction -/

theorem row_mem_opcodeMap (i : Instr) : i.row ∈ opcodeMap := by
  cases i <;> exact of_decide_eq_true rfl

theorem selectedBy_iff (r : OpcodeRow) (w : Word) :
    r.selectedBy w = true ↔ w &&& r.mask = r.pattern := beq_iff_eq

/-- By the format of the word: the mask keeps the class and the sub-opcode, which are the row's. -/
theorem row_selectedBy_encode (i : Instr) : i.row.selectedBy (encode i) = true := by
  rw [selectedBy_iff]
  cases i with
  | op00E0 | op00EE => rfl
  | op1NNN nnn | op2NNN nnn | opANNN nnn | opBNNN nnn =>
    exact (and_mask_class _).trans (by rw [encode, opClass_wordA]; rfl)
  | op3XNN x nn | op4XNN x nn | op6XNN x nn | op7XNN x nn | opCXNN x nn =>
    exact (and_mask_class _).trans (by rw [encode, opClass_wordXNN]; rfl)
  | op5XY0 x y n | op9XY0 x y n | opDXYN x y n =>
    exact (and_mask_class _).trans (by rw [encode, opClass_wordXYN]; rfl)
  | op8XY0 x y | op8XY1 x y | op8XY2 x y | op8XY3 x y | op8XY4 x y | op8XY5 x y | op8XY6 x y
  | op8XY7 x y | op8XYE x y =>
    exact (and_mask_class_N _).trans (by rw [encode, opClass_wordXYN, fieldN_wordXYN]; rfl)
  | opEX9E x | opEXA1 x | opFX07 x | opFX0A x | opFX15 x | opFX18 x | opFX1E x | opFX29 x
  | opFX33 x | opFX55 x | opFX65 x =>
    exact (and_mask_class_NN _).trans (by rw [encode, opClass_wordXNN, fieldNN_wordXNN]; rfl)

theorem row_selectedBy_of_decode {w : Word} {i : Instr} (h : decode w = .ok i) :
    i.row.selectedBy w = true :=
  encode_of_decode h ▸ row_selectedBy_encode i

/-! ### No word selects two rows -/

/-- Two rows of the map whose patterns agree where both masks look are one row. -/
theorem opcodeMap_disjoint : ∀ r ∈ opcodeMap, ∀ r' ∈ opcodeMap,
    r.pattern &&& r'.mask = r'.pattern &&& r.mask → r = r' := by
  decide

/-- The patterns of two rows that `w` selects agree where both masks look, since both are read off `w`. -/
theorem row_unique {w : Word} {r r' : OpcodeRow} (hr : r ∈ opcodeMap) (hr' : r' ∈ opcodeMap)
    (h : r.selectedBy w = true) (h' : r'.selectedBy w = true) : r = r' := by
  rw [selectedBy_iff] at h h'
  refine opcodeMap_disjoint r hr r' hr' ?_
  rw [← h, ← h', BitVec.and_assoc, BitVec.and_assoc, BitVec.and_comm r.mask]

/-! ### A word that selects a row is legal -/

/-- Every row is a whole word, a class that dispatches directly, or a class with one of its legal
sub-opcodes. -/
theorem opcodeMap_shapes : ∀ r ∈ opcodeMap,
    (r.mask = 0xFFFF ∧ wellFormedWord r.pattern = true) ∨
    (r.mask = 0xF000 ∧ r.pattern.toNat / 4096 ∈ [1, 2, 3, 4, 5, 6, 7, 9, 10, 11, 12, 13]) ∨
    (r.mask = 0xF00F ∧ r.pattern.toNat / 4096 = 8 ∧
      r.pattern.toNat % 16 ∈ [0, 1, 2, 3, 4, 5, 6, 7, 14]) ∨
    (r.mask = 0xF0FF ∧ r.pattern.toNat / 4096 = 14 ∧ r.pattern.toNat % 256 ∈ [0x9E, 0xA1]) ∨
    (r.mask = 0xF0FF ∧ r.pattern.toNat / 4096 = 15 ∧
      r.pattern.toNat % 256 ∈ [0x07, 0x0A, 0x15, 0x18, 0x1E, 0x29, 0x33, 0x55, 0x65]) := by
  decide

open Laws.EncodeWellFormed in
theorem wellFormedWord_of_selectedBy {w : Word} {r : OpcodeRow} (hr : r ∈ opcodeMap)
    (h : r.selectedBy w = true) : wellFormedWord w = true := by
  rw [selectedBy_iff] at h
  obtain ⟨hm, hw⟩ | ⟨hm, hc⟩ | ⟨hm, hc, hn⟩ | ⟨hm, hc, hn⟩ | ⟨hm, hc, hn⟩ := opcodeMap_shapes r hr <;>
  rw [hm] at h
  · have hall : w &&& 0xFFFF = w := BitVec.and_allOnes
    rwa [← h, hall] at hw
  · rw [← h, and_mask_class, wordA_div, toNat_opClass] at hc
    exact of_direct_class hc
  · rw [← h, and_mask_class_N, wordXYN_div, toNat_opClass] at hc
    rw [← h, and_mask_class_N, wordXYN_mod, toNat_fieldN] at hn
    exact of_class8 hc hn
  · rw [← h, and_mask_class_NN, wordXNN_div, toNat_opClass] at hc
    rw [← h, and_mask_class_NN, wordXNN_mod, toNat_fieldNN] at hn
    exact of_classE hc hn
  · rw [← h, and_mask_class_NN, wordXNN_div, toNat_opClass] at hc
    rw [← h, and_mask_class_NN, wordXNN_mod, toNat_fieldNN] at hn
    exact of_classF hc hn

theorem exists_decode_of_selectedBy {w : Word} {r : OpcodeRow} (hr : r ∈ opcodeMap)
    (h : r.selectedBy w = true) : ∃ i, decode w = .ok i ∧ i.row = r := by
  obtain ⟨i, hi⟩ := exists_decode_of_wellFormedWord (wellFormedWord_of_selectedBy hr h)
  exact ⟨i, hi, row_unique (row_mem_opcodeMap i) hr (row_selectedBy_of_decode hi) h⟩

theorem decode_eq_error_of_no_row {w : Word} (h : ∀ r ∈ opcodeMap, r.selectedBy w = false) :
    decode w = .error (.undefinedOpcode w) := by
  cases hd : decode w with
  | ok i =>
    have hrow := h i.row (row_mem_opcodeMap i)
    exact absurd ((row_selectedBy_of_decode hd).symm.trans hrow) (by decide)
  | error e => rw [(illegalVerdict_of_decode hd).1]

/-- Settles O6: the row of an instruction is selected by its encoding, the rows are disjoint, and a word that
selects a row is legal, so the row is that of the instruction it decodes to. -/
theorem opcodeMapSelectsTheInstruction : Obligations.OpcodeMapSelectsTheInstruction := fun _ =>
  ⟨fun i hi => ⟨row_mem_opcodeMap i, row_selectedBy_of_decode hi⟩,
    fun _ hr => exists_decode_of_selectedBy hr,
    fun _ hr _ hr' => row_unique hr hr',
    decode_eq_error_of_no_row⟩

/-! ### Counting in blocks -/

theorem countP_range_mul (p : Nat → Bool) (m k : Nat) :
    (List.range (m * k)).countP p =
      ((List.range m).map fun b => (List.range k).countP fun r => p (b * k + r)).sum := by
  induction m with
  | zero => simp
  | succ m ih =>
    rw [Nat.succ_mul, List.range_add, List.countP_append, ih, List.countP_map, List.range_succ]
    simp [Function.comp_def]

theorem countP_range_mul_of_periodic {p q : Nat → Bool} {m k : Nat}
    (h : ∀ b < m, ∀ r < k, p (b * k + r) = q r) :
    (List.range (m * k)).countP p = m * (List.range k).countP q := by
  have hblock : ∀ b ∈ List.range m,
      ((List.range k).countP fun r => p (b * k + r)) = (List.range k).countP q := fun b hb =>
    List.countP_congr fun r hr => by rw [h b (List.mem_range.1 hb) r (List.mem_range.1 hr)]
  rw [countP_range_mul, List.map_congr_left hblock, List.map_const', List.sum_replicate,
    List.length_range, smul_eq_mul]

theorem countP_range_contains {l : List Nat} {k : Nat} (hl : l.Nodup) (hk : ∀ a ∈ l, a < k) :
    (List.range k).countP l.contains = l.length := by
  have hmem (a : Nat) : a ∈ (List.range k).filter l.contains ↔ a ∈ l := by
    rw [List.mem_filter, List.mem_range, List.contains_iff_mem]
    exact and_iff_right_of_imp (hk a)
  rw [List.countP_eq_length_filter]
  exact ((List.perm_ext_iff_of_nodup (List.nodup_range.filter _) hl).2 hmem).length_eq

theorem countP_not {α : Type} (p : α → Bool) (l : List α) :
    l.countP (fun a => !p a) = l.length - l.countP p := by
  have h := List.length_eq_countP_add_countP p (l := l)
  simp only [Bool.not_eq_true, Bool.decide_eq_false] at h
  omega

/-! ### The legal words, class by class (R79) -/

/-- How many words of class `c` are legal. -/
def legalInClass (c : Nat) : Nat :=
  (List.range 4096).countP fun r => wellFormedWord (BitVec.ofNat 16 (c * 4096 + r))

/-- In a class whose words are legal by their remainder modulo `k`, each of the 4096 / k blocks of `k` words
has as many legal words as there are legal remainders. -/
theorem legalInClass_eq {c m k : Nat} {l : List Nat} (hc : c < 16) (hmk : m * k = 4096)
    (hl : l.Nodup) (hk : ∀ a ∈ l, a < k)
    (h : ∀ w : Word, w.toNat / 4096 = c → (wellFormedWord w = true ↔ w.toNat % k ∈ l)) :
    legalInClass c = m * l.length := by
  rw [legalInClass, ← hmk, countP_range_mul_of_periodic (q := l.contains), countP_range_contains hl hk]
  intro b hb r hr
  have hblock : b * k + k ≤ m * k := by
    rw [← Nat.succ_mul]; exact Nat.mul_le_mul_right k hb
  have hword : (BitVec.ofNat 16 (c * (m * k) + (b * k + r))).toNat = c * 4096 + (b * k + r) := by
    rw [hmk]; exact Nat.mod_eq_of_lt (by omega)
  have hsub : (c * 4096 + (b * k + r)) % k = r := by
    rw [← hmk, ← Nat.mul_assoc, ← Nat.add_assoc, ← Nat.add_mul, Nat.mul_add_mod_of_lt hr]
  rw [Bool.eq_iff_iff, h _ (by rw [hword]; omega), hword, hsub, List.contains_iff_mem]

/-- Every word of a class that dispatches directly is legal (R74): one remainder modulo 1. -/
theorem legalInClass_direct {c : Nat} (hc : c ∈ [1, 2, 3, 4, 5, 6, 7, 9, 10, 11, 12, 13]) :
    legalInClass c = 4096 := by
  have hlt : c < 16 := by simp only [List.mem_cons, List.not_mem_nil, or_false] at hc; omega
  refine legalInClass_eq (m := 4096) (k := 1) (l := [0]) hlt rfl (by decide) (by decide) fun w hw => ?_
  exact iff_of_true (Laws.EncodeWellFormed.of_direct_class (hw ▸ hc)) (by simp [Nat.mod_one])

theorem legalInClass_0 : legalInClass 0 = 2 :=
  legalInClass_eq (m := 1) (by decide) rfl (by decide) (by decide)
    fun _ => wellFormedWord_iff_of_class0

theorem legalInClass_8 : legalInClass 8 = 256 * 9 :=
  legalInClass_eq (by decide) rfl (by decide) (by decide) fun _ => wellFormedWord_iff_of_class8

theorem legalInClass_E : legalInClass 14 = 16 * 2 :=
  legalInClass_eq (by decide) rfl (by decide) (by decide) fun _ => wellFormedWord_iff_of_classE

theorem legalInClass_F : legalInClass 15 = 16 * 9 :=
  legalInClass_eq (by decide) rfl (by decide) (by decide) fun _ => wellFormedWord_iff_of_classF

theorem sum_legalInClass : ((List.range 16).map legalInClass).sum = 51634 := by
  have hdirect := fun c hc => legalInClass_direct (c := c) hc
  simp [List.range_succ, legalInClass_0, legalInClass_8, legalInClass_E, legalInClass_F, hdirect]

theorem countP_legal :
    (List.range (16 * 4096)).countP (fun n => wellFormedWord (BitVec.ofNat 16 n)) = 51634 :=
  (countP_range_mul ..).trans sum_legalInClass

/-- Settles O5: the words are counted class by class, and the illegal ones are the rest. -/
theorem legalAndIllegalWordCounts : Obligations.LegalAndIllegalWordCounts := by
  have hlegal : (List.range 65536).countP (fun n => wellFormedWord (BitVec.ofNat 16 n)) = 51634 :=
    countP_legal
  exact ⟨hlegal, by rw [countP_not, hlegal, List.length_range]⟩

end Sys2Proof
end

section
/-! PROOF. The access matrix (spec/10_state.md rule R37): which parts of the state an instruction may write,
said once for every instruction, and the flag discipline (spec/40_cycle_dispatch.md rules R96 and R97). -/

namespace Sys2Proof

open Sys2Proof.Machine

/-- A column of the access matrix R37: a part of the state that some instruction may write. -/
inductive Part where
  | v | i | pc | stack | dt | st | mem | fb | rnd
  deriving DecidableEq

/-- The row of an instruction in the access matrix R37. Its entry for PC is what comes on top of the cycle's
advance (R101), and VF has the rules R96 and R97 of its own. -/
def writes : Instr → List Part
  | .op00E0 => [.fb]
  | .op00EE | .op2NNN _ => [.stack, .pc]
  | .op1NNN _ | .opBNNN _ | .op3XNN _ _ | .op4XNN _ _ | .op5XY0 _ _ _ | .op9XY0 _ _ _
  | .opEX9E _ | .opEXA1 _ => [.pc]
  | .op6XNN _ _ | .op7XNN _ _ | .op8XY0 _ _ | .op8XY1 _ _ | .op8XY2 _ _ | .op8XY3 _ _
  | .op8XY4 _ _ | .op8XY5 _ _ | .op8XY6 _ _ | .op8XY7 _ _ | .op8XYE _ _ | .opFX07 _
  | .opFX65 _ => [.v]
  | .opANNN _ | .opFX1E _ | .opFX29 _ => [.i]
  | .opCXNN _ _ => [.rnd, .v]
  | .opDXYN _ _ _ => [.fb]
  | .opFX0A _ => [.v, .pc]
  | .opFX15 _ => [.dt]
  | .opFX18 _ => [.st]
  | .opFX33 _ | .opFX55 _ => [.mem]

/-- `t` is `s` but for VF and the parts in `ps`. KEYS, RUN and the model's other own fields are in no part:
no instruction writes them. -/
structure ChangesOnly (ps : List Part) (s t : State) : Prop where
  v : .v ∉ ps → ∀ y, y ≠ 0xF → t.getV y = s.getV y
  i : .i ∉ ps → t.i = s.i
  pc : .pc ∉ ps → t.pc = s.pc
  sp : .stack ∉ ps → t.sp = s.sp
  stack : .stack ∉ ps → t.stack = s.stack
  dt : .dt ∉ ps → t.dt = s.dt
  st : .st ∉ ps → t.st = s.st
  mem : .mem ∉ ps → t.mem = s.mem
  fb : .fb ∉ ps → t.fb = s.fb
  rnd : .rnd ∉ ps → t.rnd = s.rnd
  draws : .rnd ∉ ps → t.draws = s.draws
  keys : t.keys = s.keys
  run : t.run = s.run
  events : t.events = s.events
  host : t.host = s.host
  font : t.font = s.font
  cyclesPerFrame : t.cyclesPerFrame = s.cyclesPerFrame

/-! ### Changes one after the other -/

section
variable {ps : List Part} {s t u : State}

theorem changesOnly_refl (ps : List Part) (s : State) : ChangesOnly ps s s := by
  constructor <;> intros <;> rfl

/-- Two changes one after the other change the parts of either. -/
theorem ChangesOnly.append {qs : List Part} (h : ChangesOnly ps s t) (h' : ChangesOnly qs t u) :
    ChangesOnly (ps ++ qs) s u := by
  have left {p : Part} (hp : p ∉ ps ++ qs) : p ∉ ps := fun h => hp (List.mem_append_left qs h)
  have right {p : Part} (hp : p ∉ ps ++ qs) : p ∉ qs := fun h => hp (List.mem_append_right ps h)
  exact {
    v := fun hp y hy => (h'.v (right hp) y hy).trans (h.v (left hp) y hy)
    i := fun hp => (h'.i (right hp)).trans (h.i (left hp))
    pc := fun hp => (h'.pc (right hp)).trans (h.pc (left hp))
    sp := fun hp => (h'.sp (right hp)).trans (h.sp (left hp))
    stack := fun hp => (h'.stack (right hp)).trans (h.stack (left hp))
    dt := fun hp => (h'.dt (right hp)).trans (h.dt (left hp))
    st := fun hp => (h'.st (right hp)).trans (h.st (left hp))
    mem := fun hp => (h'.mem (right hp)).trans (h.mem (left hp))
    fb := fun hp => (h'.fb (right hp)).trans (h.fb (left hp))
    rnd := fun hp => (h'.rnd (right hp)).trans (h.rnd (left hp))
    draws := fun hp => (h'.draws (right hp)).trans (h.draws (left hp))
    keys := h'.keys.trans h.keys
    run := h'.run.trans h.run
    events := h'.events.trans h.events
    host := h'.host.trans h.host
    font := h'.font.trans h.font
    cyclesPerFrame := h'.cyclesPerFrame.trans h.cyclesPerFrame }

/-! ### The updates a handler is made of -/

theorem changesOnly_setV (x : Nibble) (b : Byte) : ChangesOnly [.v] s (s.setV x b) :=
  { changesOnly_refl _ s with v := absurd (.head _) }

/-- A write to VF alone changes no part. -/
theorem changesOnly_setV_VF (b : Byte) : ChangesOnly [] s (s.setV 0xF b) :=
  { changesOnly_refl _ s with v := fun _ y hy => by rw [State.getV_setV, if_neg hy] }

theorem changesOnly_setI (w : Word) : ChangesOnly [.i] s (s.setI w) :=
  { changesOnly_refl _ s with i := absurd (.head _) }

theorem changesOnly_setPc (a : Addr) : ChangesOnly [.pc] s (s.setPc a) :=
  { changesOnly_refl _ s with pc := absurd (.head _) }

theorem changesOnly_push (a : Addr) : ChangesOnly [.stack] s (s.push a) :=
  { changesOnly_refl _ s with sp := absurd (.head _), stack := absurd (.head _) }

theorem changesOnly_pop : ChangesOnly [.stack] s s.pop :=
  { changesOnly_refl _ s with sp := absurd (.head _) }

theorem changesOnly_setDt (b : Byte) : ChangesOnly [.dt] s (s.setDt b) :=
  { changesOnly_refl _ s with dt := absurd (.head _) }

theorem changesOnly_setSt (b : Byte) : ChangesOnly [.st] s (s.setSt b) :=
  { changesOnly_refl _ s with st := absurd (.head _) }

theorem changesOnly_setFb (g : Grid) : ChangesOnly [.fb] s (s.setFb g) :=
  { changesOnly_refl _ s with fb := absurd (.head _) }

theorem changesOnly_afterDraw : ChangesOnly [.rnd] s s.afterDraw :=
  { changesOnly_refl _ s with rnd := absurd (.head _), draws := absurd (.head _) }

theorem changesOnly_loadUpTo (x : Nibble) : ChangesOnly [.v] s (s.loadUpTo x) :=
  { changesOnly_refl _ s with v := absurd (.head _) }

theorem changesOnly_storeFrom (k : Nat) (bytes : List Byte) :
    ChangesOnly [.mem] s (s.storeFrom k bytes) :=
  s.storeFrom_eq k bytes ▸ { changesOnly_refl _ s with mem := absurd (.head _) }

theorem changesOnly_skipIf (c : Bool) : ChangesOnly [.pc] s (s.skipIf c) :=
  skipIf_eq_setPc s c ▸ changesOnly_setPc _

/-! ### From the handler to the instruction -/

/-- Restoring VF (R96) changes no part either. -/
theorem changesOnly_of_runHandler {i : Instr} {h : State → State} (hi : exec i s = runHandler h s)
    (hh : ChangesOnly ps s (h s)) (ht : exec i s = .next t) : ChangesOnly ps s t := by
  cases hi.symm.trans ht
  exact { hh with v := fun hp y hy => by rw [State.getV_keepingVF, if_neg hy, hh.v hp y hy] }

theorem changesOnly_of_runFlagHandler {i : Instr} {h : State → State}
    (hi : exec i s = runFlagHandler h s) (hh : ChangesOnly ps s (h s)) (ht : exec i s = .next t) :
    ChangesOnly ps s t := by
  cases hi.symm.trans ht
  exact hh

/-- Every instruction keeps to its row of the access matrix: its handler is one update of each part in the
row, and the wait for a key one of the two in its row. -/
theorem exec_changesOnly {i : Instr} (ht : exec i s = .next t) : ChangesOnly (writes i) s t := by
  cases i with
  | op00E0 => exact changesOnly_of_runHandler (exec_op00E0 s) (changesOnly_setFb _) ht
  | op00EE =>
    exact changesOnly_of_runHandler (exec_op00EE s)
      (changesOnly_pop.append (changesOnly_setPc _)) ht
  | op1NNN nnn =>
    exact changesOnly_of_runHandler (exec_op1NNN s nnn) (changesOnly_setPc _) ht
  | op2NNN nnn =>
    exact changesOnly_of_runHandler (exec_op2NNN s nnn)
      ((changesOnly_push _).append (changesOnly_setPc _)) ht
  | op3XNN x nn =>
    exact changesOnly_of_runHandler (exec_op3XNN s x nn) (changesOnly_skipIf _) ht
  | op4XNN x nn =>
    exact changesOnly_of_runHandler (exec_op4XNN s x nn) (changesOnly_skipIf _) ht
  | op5XY0 x y n =>
    exact changesOnly_of_runHandler (exec_op5XY0 s x y n) (changesOnly_skipIf _) ht
  | op6XNN x nn =>
    exact changesOnly_of_runHandler (exec_op6XNN s x nn) (changesOnly_setV _ _) ht
  | op7XNN x nn =>
    exact changesOnly_of_runHandler (exec_op7XNN s x nn) (changesOnly_setV _ _) ht
  | op8XY0 x y =>
    exact changesOnly_of_runHandler (exec_op8XY0 s x y) (changesOnly_setV _ _) ht
  | op8XY1 x y =>
    exact changesOnly_of_runHandler (exec_op8XY1 s x y) (changesOnly_setV _ _) ht
  | op8XY2 x y =>
    exact changesOnly_of_runHandler (exec_op8XY2 s x y) (changesOnly_setV _ _) ht
  | op8XY3 x y =>
    exact changesOnly_of_runHandler (exec_op8XY3 s x y) (changesOnly_setV _ _) ht
  | op8XY4 x y =>
    exact changesOnly_of_runFlagHandler (exec_op8XY4 s x y)
      ((changesOnly_setV _ _).append (changesOnly_setV_VF _)) ht
  | op8XY5 x y =>
    exact changesOnly_of_runFlagHandler (exec_op8XY5 s x y)
      ((changesOnly_setV _ _).append (changesOnly_setV_VF _)) ht
  | op8XY6 x y =>
    exact changesOnly_of_runFlagHandler (exec_op8XY6 s x y)
      ((changesOnly_setV _ _).append (changesOnly_setV_VF _)) ht
  | op8XY7 x y =>
    exact changesOnly_of_runFlagHandler (exec_op8XY7 s x y)
      ((changesOnly_setV _ _).append (changesOnly_setV_VF _)) ht
  | op8XYE x y =>
    exact changesOnly_of_runFlagHandler (exec_op8XYE s x y)
      ((changesOnly_setV _ _).append (changesOnly_setV_VF _)) ht
  | op9XY0 x y n =>
    exact changesOnly_of_runHandler (exec_op9XY0 s x y n) (changesOnly_skipIf _) ht
  | opANNN nnn =>
    exact changesOnly_of_runHandler (exec_opANNN s nnn) (changesOnly_setI _) ht
  | opBNNN nnn =>
    exact changesOnly_of_runHandler (exec_opBNNN s nnn) (changesOnly_setPc _) ht
  | opCXNN x nn =>
    exact changesOnly_of_runHandler (exec_opCXNN s x nn)
      (changesOnly_afterDraw.append (changesOnly_setV _ _)) ht
  | opDXYN x y n =>
    exact changesOnly_of_runFlagHandler (exec_opDXYN s x y n)
      ((changesOnly_setFb _).append (changesOnly_setV_VF _)) ht
  | opEX9E x =>
    exact changesOnly_of_runHandler (exec_opEX9E s x) (changesOnly_skipIf _) ht
  | opEXA1 x =>
    exact changesOnly_of_runHandler (exec_opEXA1 s x) (changesOnly_skipIf _) ht
  | opFX07 x =>
    exact changesOnly_of_runHandler (exec_opFX07 s x) (changesOnly_setV _ _) ht
  | opFX0A x =>
    refine changesOnly_of_runHandler (exec_opFX0A s x) ?_ ht
    cases s.anyPressed with
    | none => exact (changesOnly_refl [.v] s).append (changesOnly_setPc _)
    | some k => exact (changesOnly_setV _ _).append (changesOnly_refl [.pc] _)
  | opFX15 x =>
    exact changesOnly_of_runHandler (exec_opFX15 s x) (changesOnly_setDt _) ht
  | opFX18 x =>
    exact changesOnly_of_runHandler (exec_opFX18 s x) (changesOnly_setSt _) ht
  | opFX1E x =>
    exact changesOnly_of_runHandler (exec_opFX1E s x) (changesOnly_setI _) ht
  | opFX29 x =>
    exact changesOnly_of_runHandler (exec_opFX29 s x) (changesOnly_setI _) ht
  | opFX33 x =>
    exact changesOnly_of_runHandler (exec_opFX33 s x) (changesOnly_storeFrom _ _) ht
  | opFX55 x =>
    exact changesOnly_of_runHandler (exec_opFX55 s x) (changesOnly_storeFrom _ _) ht
  | opFX65 x =>
    exact changesOnly_of_runHandler (exec_opFX65 s x) (changesOnly_loadUpTo _) ht

end

/-! ### The columns of the matrix

By cases on the instruction: its row has the part, or the instruction is in the list. -/

theorem v_mem_writes {i : Instr} (h : Part.v ∈ writes i) :
    (∃ x nn, i = .op6XNN x nn) ∨ (∃ x nn, i = .op7XNN x nn) ∨ (∃ x y, i = .op8XY0 x y) ∨
    (∃ x y, i = .op8XY1 x y) ∨ (∃ x y, i = .op8XY2 x y) ∨ (∃ x y, i = .op8XY3 x y) ∨
    (∃ x y, i = .op8XY4 x y) ∨ (∃ x y, i = .op8XY5 x y) ∨ (∃ x y, i = .op8XY6 x y) ∨
    (∃ x y, i = .op8XY7 x y) ∨ (∃ x y, i = .op8XYE x y) ∨ (∃ x nn, i = .opCXNN x nn) ∨
    (∃ x, i = .opFX07 x) ∨ (∃ x, i = .opFX0A x) ∨ (∃ x, i = .opFX65 x) := by
  cases i <;> simp_all [writes]

theorem pc_mem_writes {i : Instr} (h : Part.pc ∈ writes i) :
    i = .op00EE ∨ (∃ nnn, i = .op1NNN nnn) ∨ (∃ nnn, i = .op2NNN nnn) ∨ (∃ nnn, i = .opBNNN nnn) ∨
    (∃ x nn, i = .op3XNN x nn) ∨ (∃ x nn, i = .op4XNN x nn) ∨ (∃ x y n, i = .op5XY0 x y n) ∨
    (∃ x y n, i = .op9XY0 x y n) ∨ (∃ x, i = .opEX9E x) ∨ (∃ x, i = .opEXA1 x) ∨
    (∃ x, i = .opFX0A x) := by
  cases i <;> simp_all [writes]

theorem i_mem_writes {i : Instr} (h : Part.i ∈ writes i) :
    (∃ nnn, i = .opANNN nnn) ∨ (∃ x, i = .opFX1E x) ∨ (∃ x, i = .opFX29 x) := by
  cases i <;> simp_all [writes]

theorem stack_mem_writes {i : Instr} (h : Part.stack ∈ writes i) :
    (∃ nnn, i = .op2NNN nnn) ∨ i = .op00EE := by
  cases i <;> simp_all [writes]

theorem dt_mem_writes {i : Instr} (h : Part.dt ∈ writes i) : ∃ x, i = .opFX15 x := by
  cases i <;> simp_all [writes]

theorem st_mem_writes {i : Instr} (h : Part.st ∈ writes i) : ∃ x, i = .opFX18 x := by
  cases i <;> simp_all [writes]

theorem mem_mem_writes {i : Instr} (h : Part.mem ∈ writes i) :
    (∃ x, i = .opFX33 x) ∨ (∃ x, i = .opFX55 x) := by
  cases i <;> simp_all [writes]

theorem fb_mem_writes {i : Instr} (h : Part.fb ∈ writes i) :
    i = .op00E0 ∨ ∃ x y n, i = .opDXYN x y n := by
  cases i <;> simp_all [writes]

theorem rnd_mem_writes {i : Instr} (h : Part.rnd ∈ writes i) : ∃ x nn, i = .opCXNN x nn := by
  cases i <;> simp_all [writes]

/-- A byte is read from memory and FONT alone. -/
theorem memRead_congr {s t : State} (hmem : t.mem = s.mem) (hfont : t.font = s.font) (a : Nat) :
    t.memRead a = s.memRead a := by
  rw [State.memRead, State.memRead, hmem, hfont]

/-! ### VF (R96, R97) -/

theorem flagDefining_iff (i : Instr) : flagDefining i = true ↔
    (∃ x y, i = .op8XY4 x y) ∨ (∃ x y, i = .op8XY5 x y) ∨ (∃ x y, i = .op8XY6 x y) ∨
    (∃ x y, i = .op8XY7 x y) ∨ (∃ x y, i = .op8XYE x y) ∨ (∃ x y n, i = .opDXYN x y n) := by
  cases i <;> simp [flagDefining]

/-- VF is restored at the end of an instruction that is not flag-defining, and a flag is the last write of one
that is. -/
theorem exec_flag_discipline (i : Instr) (s : State) :
    (flagDefining i = false ∧ ∃ h, exec i s = runHandler h s) ∨
    (flagDefining i = true ∧ ∃ t b, exec i s = .next (State.setFlag t b)) := by
  cases i with
  | op8XY4 | op8XY5 | op8XY6 | op8XY7 | op8XYE | opDXYN => exact .inr ⟨rfl, _, _, rfl⟩
  | _ => exact .inl ⟨rfl, _, rfl⟩

theorem flagByte_eq_zero_or_one (b : Bool) : flagByte b = 0 ∨ flagByte b = 1 := by
  cases b
  · exact .inl rfl
  · exact .inr rfl

theorem getV_VF_of_exec {i : Instr} {s t : State} (ht : exec i s = .next t) :
    (flagDefining i = true ∧ (t.getV 0xF = 0 ∨ t.getV 0xF = 1)) ∨
    (flagDefining i = false ∧ t.getV 0xF = s.getV 0xF) := by
  obtain ⟨hi, h, hex⟩ | ⟨hi, u, b, hex⟩ := exec_flag_discipline i s <;> cases hex.symm.trans ht
  · exact .inr ⟨hi, by rw [State.getV_keepingVF, if_pos rfl]⟩
  · refine .inl ⟨hi, ?_⟩
    rw [State.setFlag, State.getV_setV, if_pos rfl]
    exact flagByte_eq_zero_or_one b

/-- Settles O15: VF is restored after the instructions that are not flag-defining, and the last write of the
others is a flag. -/
theorem onlyFlagDefiningInstructionsChangeVF : Obligations.OnlyFlagDefiningInstructionsChangeVF :=
  fun i _ _ ht => (getV_VF_of_exec ht).imp_left fun ⟨hi, hVF⟩ => ⟨(flagDefining_iff i).1 hi, hVF⟩

/-- Settles O16: each clause is a column of the access matrix, and the one about VF is the flag discipline. -/
theorem whoWritesWhichState : Obligations.WhoWritesWhichState := fun i s t ht => by
  have hc := exec_changesOnly ht
  have hVF (hne : t.getV 0xF ≠ s.getV 0xF) : flagDefining i = true :=
    (getV_VF_of_exec ht).elim And.left fun h => absurd h.2 hne
  have hread (hp : .mem ∉ writes i) (a : Nat) := memRead_congr (hc.mem hp) hc.font a
  exact ⟨fun ⟨y, hy, hne⟩ => v_mem_writes (not_imp_comm.1 (hc.v · y hy) hne),
    fun hne => (flagDefining_iff i).1 (hVF hne),
    fun hne => pc_mem_writes (not_imp_comm.1 hc.pc hne),
    fun hne => i_mem_writes (not_imp_comm.1 hc.i hne),
    fun hne => stack_mem_writes (hne.elim (not_imp_comm.1 hc.sp) (not_imp_comm.1 hc.stack)),
    fun hne => dt_mem_writes (not_imp_comm.1 hc.dt hne),
    fun hne => st_mem_writes (not_imp_comm.1 hc.st hne),
    fun ⟨a, hne⟩ => mem_mem_writes (not_imp_comm.1 (hread · a) hne),
    fun hne => fb_mem_writes (not_imp_comm.1 hc.fb hne),
    fun hne => rnd_mem_writes (hne.elim (not_imp_comm.1 hc.draws) (not_imp_comm.1 hc.rnd)),
    hc.keys, hc.run, hc.events, hc.host, hc.font, hc.cyclesPerFrame⟩

end Sys2Proof
end

section
/-! PROOF. What no instruction reads: the sound timer (spec/10_state.md rule R27) and the host's commands
(spec/00_scope.md rule R11; log entry 1). -/

namespace Sys2Proof

open Sys2Proof.Machine

/-- Another sound timer and another list of commands: what no instruction but FX18 (R207) touches. -/
def setStHost (s : State) (b : Byte) (cs : List Command) : State := { s with st := b, host := cs }

theorem storeFrom_setStHost (s : State) (b : Byte) (cs : List Command) (k : Nat) (bytes : List Byte) :
    (setStHost s b cs).storeFrom k bytes = setStHost (s.storeFrom k bytes) b cs := by
  induction bytes generalizing s k with
  | nil => rfl
  | cons c bytes ih => exact ih (s.memWrite (s.ea k) c) (k + 1)

theorem skipIf_setStHost (s : State) (b : Byte) (cs : List Command) (c : Bool) :
    (setStHost s b cs).skipIf c = setStHost (s.skipIf c) b cs := by
  cases c <;> rfl

section
variable {i : Instr} {h : State → State} {s t : State} {b : Byte} {cs : List Command}

/-- An instruction whose handler does not look at the two parts answers alike. -/
theorem exec_setStHost_of_runHandler (hi : ∀ s, exec i s = runHandler h s)
    (hh : h (setStHost s b cs) = setStHost (h s) b cs) (ht : exec i s = .next t) :
    exec i (setStHost s b cs) = .next (setStHost t b cs) := by
  cases (hi s).symm.trans ht
  rw [hi, runHandler_eq, State.keepingVF, hh]
  rfl

theorem exec_setStHost_of_runFlagHandler (hi : ∀ s, exec i s = runFlagHandler h s)
    (hh : h (setStHost s b cs) = setStHost (h s) b cs) (ht : exec i s = .next t) :
    exec i (setStHost s b cs) = .next (setStHost t b cs) := by
  cases (hi s).symm.trans ht
  rw [hi, runFlagHandler_eq, hh]

/-- No instruction but FX18 reads or writes ST or the host's commands. Where the handler is a fixed sequence of
field updates that is so by definition; the skips and the stores have a lemma above, and the wait for a key is
two cases. -/
theorem exec_setStHost (hi : ∀ x, i ≠ .opFX18 x) (ht : exec i s = .next t) :
    exec i (setStHost s b cs) = .next (setStHost t b cs) := by
  cases i with
  | op00E0 => exact exec_setStHost_of_runHandler exec_op00E0 rfl ht
  | op00EE => exact exec_setStHost_of_runHandler exec_op00EE rfl ht
  | op1NNN nnn => exact exec_setStHost_of_runHandler (exec_op1NNN · nnn) rfl ht
  | op2NNN nnn => exact exec_setStHost_of_runHandler (exec_op2NNN · nnn) rfl ht
  | op3XNN x nn => exact exec_setStHost_of_runHandler (exec_op3XNN · x nn) (skipIf_setStHost ..) ht
  | op4XNN x nn => exact exec_setStHost_of_runHandler (exec_op4XNN · x nn) (skipIf_setStHost ..) ht
  | op5XY0 x y n => exact exec_setStHost_of_runHandler (exec_op5XY0 · x y n) (skipIf_setStHost ..) ht
  | op6XNN x nn => exact exec_setStHost_of_runHandler (exec_op6XNN · x nn) rfl ht
  | op7XNN x nn => exact exec_setStHost_of_runHandler (exec_op7XNN · x nn) rfl ht
  | op8XY0 x y => exact exec_setStHost_of_runHandler (exec_op8XY0 · x y) rfl ht
  | op8XY1 x y => exact exec_setStHost_of_runHandler (exec_op8XY1 · x y) rfl ht
  | op8XY2 x y => exact exec_setStHost_of_runHandler (exec_op8XY2 · x y) rfl ht
  | op8XY3 x y => exact exec_setStHost_of_runHandler (exec_op8XY3 · x y) rfl ht
  | op8XY4 x y => exact exec_setStHost_of_runFlagHandler (exec_op8XY4 · x y) rfl ht
  | op8XY5 x y => exact exec_setStHost_of_runFlagHandler (exec_op8XY5 · x y) rfl ht
  | op8XY6 x y => exact exec_setStHost_of_runFlagHandler (exec_op8XY6 · x y) rfl ht
  | op8XY7 x y => exact exec_setStHost_of_runFlagHandler (exec_op8XY7 · x y) rfl ht
  | op8XYE x y => exact exec_setStHost_of_runFlagHandler (exec_op8XYE · x y) rfl ht
  | op9XY0 x y n => exact exec_setStHost_of_runHandler (exec_op9XY0 · x y n) (skipIf_setStHost ..) ht
  | opANNN nnn => exact exec_setStHost_of_runHandler (exec_opANNN · nnn) rfl ht
  | opBNNN nnn => exact exec_setStHost_of_runHandler (exec_opBNNN · nnn) rfl ht
  | opCXNN x nn => exact exec_setStHost_of_runHandler (exec_opCXNN · x nn) rfl ht
  | opDXYN x y n => exact exec_setStHost_of_runFlagHandler (exec_opDXYN · x y n) rfl ht
  | opEX9E x => exact exec_setStHost_of_runHandler (exec_opEX9E · x) (skipIf_setStHost ..) ht
  | opEXA1 x => exact exec_setStHost_of_runHandler (exec_opEXA1 · x) (skipIf_setStHost ..) ht
  | opFX07 x => exact exec_setStHost_of_runHandler (exec_opFX07 · x) rfl ht
  | opFX0A x =>
    refine exec_setStHost_of_runHandler (exec_opFX0A · x) ?_ ht
    have hkeys : (setStHost s b cs).anyPressed = s.anyPressed := rfl
    simp only [hkeys]
    cases s.anyPressed with
    | none => rfl
    | some k => rfl
  | opFX15 x => exact exec_setStHost_of_runHandler (exec_opFX15 · x) rfl ht
  | opFX18 x => exact absurd rfl (hi x)
  | opFX1E x => exact exec_setStHost_of_runHandler (exec_opFX1E · x) rfl ht
  | opFX29 x => exact exec_setStHost_of_runHandler (exec_opFX29 · x) rfl ht
  | opFX33 x => exact exec_setStHost_of_runHandler (exec_opFX33 · x) (storeFrom_setStHost ..) ht
  | opFX55 x => exact exec_setStHost_of_runHandler (exec_opFX55 · x) (storeFrom_setStHost ..) ht
  | opFX65 x => exact exec_setStHost_of_runHandler (exec_opFX65 · x) rfl ht

end

/-- Settles O17: FX18 overwrites ST without reading it, and no other instruction touches ST. -/
theorem noInstructionReadsTheSoundTimer : Obligations.NoInstructionReadsTheSoundTimer :=
  fun i s t b ht => by
    by_cases hi : ∃ x, i = .opFX18 x
    · obtain ⟨x, rfl⟩ := hi
      cases ht
      exact ⟨_, rfl, rfl⟩
    · refine ⟨_, exec_setStHost (cs := s.host) (fun x hx => hi ⟨x, hx⟩) ht, ?_⟩
      rw [setStHost, ← (exec_changesOnly ht).host]

/-- No instruction reads or writes the host's commands: FX18 by definition, the others with ST as it is. -/
theorem exec_setHost {i : Instr} {s t : State} (cs : List Command) (ht : exec i s = .next t) :
    exec i (s.setHost cs) = .next (t.setHost cs) := by
  by_cases hp : Part.st ∈ writes i
  · obtain ⟨x, rfl⟩ := st_mem_writes hp
    cases ht
    rfl
  · have hst : t.st = s.st := (exec_changesOnly ht).st hp
    have hi : ∀ x, i ≠ .opFX18 x := by rintro x rfl; exact hp (.head _)
    calc exec i (s.setHost cs)
        = .next (setStHost t s.st cs) := exec_setStHost (b := s.st) hi ht
      _ = .next (t.setHost cs) := by rw [← hst]; rfl

end Sys2Proof
end

section
/-! PROOF. The cycle (spec/40_cycle_dispatch.md rules R90 to R94 and R100; spec/60_exceptions.md rules R220
to R223): the fetch, what a CYCLE does with RUN true and with RUN false, and the word the host places. -/

namespace Sys2Proof

open Sys2Proof.Machine

/-! ### The fetch (R91) -/

theorem toNat_wordOfBytes (hi lo : Byte) : (wordOfBytes hi lo).toNat = hi.toNat * 256 + lo.toNat := by
  rw [wordOfBytes, BitVec.toNat_append, ← Nat.shiftLeft_add_eq_or_of_lt lo.isLt, Nat.shiftLeft_eq]

/-- Settles O9: the word of two bytes as a number, and an address read modulo 4096. -/
theorem fetchReadsTwoBytesAtPc : Obligations.FetchReadsTwoBytesAtPc := fun s => by
  rw [State.fetch, toNat_wordOfBytes, State.memRead_mod]

/-- The byte at PC is the high half of the word. -/
theorem fetch_hi (s : State) : s.fetch.extractLsb' 8 8 = s.memRead s.pc.toNat :=
  BitVec.extractLsb'_append_eq_left

/-- The byte at PC + 1 is the low half of the word. -/
theorem fetch_lo (s : State) : s.fetch.extractLsb' 0 8 = s.memRead (s.pc.toNat + 1) :=
  BitVec.extractLsb'_append_eq_right

/-- Taking a command from the host's list does not change the word at PC. -/
theorem fetch_setHost (s : State) (cs : List Command) : (s.setHost cs).fetch = s.fetch := rfl

/-! ### A CYCLE with RUN true -/

section
variable {s : State} {cs : List Command}

theorem step_of_ok {i : Instr} (hg : s.GivesCycle cs) (hr : s.run = true) (hd : decode s.fetch = .ok i) :
    step s = exec i (s.setHost cs).advance := by
  rw [← fetch_setHost s cs] at hd
  exact (step_of_givesCycle hg).trans (cycle_of_ok hr hd)

theorem step_of_error {e : DecodeError} (hg : s.GivesCycle cs) (hr : s.run = true)
    (hd : decode s.fetch = .error e) :
    step s = .next ((s.setHost cs).advance.raiseUndefinedOpcode s.fetch) := by
  rw [← fetch_setHost s cs] at hd
  exact (step_of_givesCycle hg).trans (cycle_of_error hr hd)

end

/-- Settles O10: the advance and the command taken are two updates of the state `exec` starts from. -/
theorem stepRunsTheDecodedInstruction : Obligations.StepRunsTheDecodedInstruction :=
  fun _ _ _ hg hr hd => step_of_ok hg hr hd

/-- Settles O12: the advance, the command taken and the exception are the updates named. -/
theorem illegalWordHaltsTheBlock : Obligations.IllegalWordHaltsTheBlock :=
  fun _ _ _ hg hr hd => step_of_error hg hr hd

/-! ### With RUN false (R223) -/

theorem frame_of_not_run {s : State} (h : s.run = false) : frame s = s := by
  rw [frame_eq, h]
  rfl

theorem step_of_not_run {s : State} {cs : List Command} (hr : s.run = false)
    (h : s.GivesCycle cs ∨ s.host = .frame :: cs) : step s = .next (s.setHost cs) := by
  obtain hg | hh := h
  · exact (step_of_givesCycle hg).trans (cycle_of_not_run hr)
  · exact (step_of_host_cons hh).trans (congrArg Host.Outcome.next (frame_of_not_run hr))

/-- Settles O13: either command leaves the state but for the host's list, and with no command waiting the step
leads back to the same state. -/
theorem nothingRunsWhileRunIsFalse : Obligations.NothingRunsWhileRunIsFalse := fun _ hr =>
  ⟨fun _ h => step_of_not_run hr h,
    fun hh k => run_of_step_self ((step_of_host_nil hh).trans (cycle_of_not_run hr)) k⟩

/-! ### The error kinds (R220) -/

section
variable {s : State}

theorem error_of_not_run (h : s.run = false) (isCycle : Bool) : s.error isCycle = some .notPlaying := by
  simp [State.error, h]

theorem error_of_ok {i : Instr} (h : s.run = true) (hd : decode s.fetch = .ok i) (isCycle : Bool) :
    s.error isCycle = none := by
  simp [State.error, h, hd]

theorem error_of_error {e : DecodeError} (h : s.run = true) (hd : decode s.fetch = .error e)
    (isCycle : Bool) : s.error isCycle = if isCycle then some .undefinedOpcode else none := by
  cases isCycle <;> simp [State.error, h, hd]

end

/-- Settles O60: by RUN, then by the decoder's answer, which is an error exactly on an illegal word. -/
theorem errorKindsAndTheirCauses : Obligations.ErrorKindsAndTheirCauses := by
  refine ⟨rfl, rfl, fun s isCycle => ?_⟩
  cases hr : s.run with
  | false => simp [error_of_not_run hr]
  | true =>
    cases hd : decode s.fetch with
    | ok i => simp [error_of_ok hr hd, wellFormedWord_of_decode hd]
    | error e =>
      obtain ⟨-, hw⟩ := illegalVerdict_of_decode hd
      cases isCycle <;> simp [error_of_error hr hd, hw]

/-! ### A placed word (log entry 19) -/

section
variable (s : State) (w : Word)

theorem placeWord_eq_setMem : ∃ m, s.placeWord w = ((s.setMem m).setRun true).setHost [] := ⟨_, rfl⟩

theorem placeWord_eq :
    s.placeWord w = { s with mem := (s.placeWord w).mem, run := true, host := [] } := by
  obtain ⟨m, hm⟩ := placeWord_eq_setMem s w
  rw [hm]
  rfl

theorem memRead_placeWord (a : Nat) : (s.placeWord w).memRead a =
    if a % 4096 = (s.pc.toNat + 1) % 4096 then w.extractLsb' 0 8
    else if a % 4096 = s.pc.toNat then w.extractLsb' 8 8
    else s.memRead a := by
  have hpc : s.pc.toNat % Config.memSize = s.pc.toNat := Nat.mod_eq_of_lt s.pc.isLt
  rw [State.placeWord, State.memRead_setHost, State.memRead_setRun, State.memRead_memWrite,
    State.memRead_memWrite, hpc]

/-- The two bytes lie at different addresses, so the second write does not hide the first. -/
theorem fetch_placeWord : (s.placeWord w).fetch = w := by
  have hpc : (s.placeWord w).pc = s.pc := by rw [placeWord_eq]
  have hlt := s.pc.isLt
  have hlo : s.pc.toNat % 4096 = s.pc.toNat := by omega
  have hne : s.pc.toNat ≠ (s.pc.toNat + 1) % 4096 := by omega
  rw [State.fetch, hpc, memRead_placeWord, memRead_placeWord, if_pos rfl, hlo, if_neg hne, if_pos rfl,
    wordOfBytes_split]

end

theorem withFetchWord_eq_placeWord (s : State) {w : Nat} (hw : w < 65536) :
    s.withFetchWord 16 w = s.placeWord (BitVec.ofNat 16 w) := by
  have hword : w % 2 ^ 16 = w := Nat.mod_eq_of_lt hw
  rw [State.withFetchWord, hword]

/-- Settles O11: placing a word is two byte writes, RUN set and the list of commands emptied. -/
theorem placedWordIsFetched : Obligations.PlacedWordIsFetched := fun s w hw => by
  rw [withFetchWord_eq_placeWord s hw]
  refine ⟨fetch_placeWord s _, placeWord_eq s _, fun a hhi hlo => ?_⟩
  rw [memRead_placeWord, if_neg hlo, if_neg hhi]

end Sys2Proof
end

section
/-! PROOF. The host's commands one after the other (spec/00_scope.md rules R11, R14 and R15). -/

namespace Sys2Proof

open Sys2Proof.Machine

/-! ### What each command that can be refused answers (R14) -/

section
variable (s : State) {bytes : List Byte} {id : Nat}

theorem execCommand_load_of_le (h : bytes.length ≤ Config.progMax) :
    execCommand (.load bytes) s = .next (s.load bytes) := if_pos h

theorem execCommand_load_of_gt (h : Config.progMax < bytes.length) :
    execCommand (.load bytes) s = .refused (.loadTooLong bytes.length) := if_neg h.not_ge

theorem execCommand_keyDown_of_lt (h : id < Config.nKeys) :
    execCommand (.keyDown id) s = .next (s.keyDown id) := if_pos h

theorem execCommand_keyDown_of_ge (h : Config.nKeys ≤ id) :
    execCommand (.keyDown id) s = .refused (.keyIdOutOfRange id) := if_neg h.not_gt

theorem execCommand_keyUp_of_lt (h : id < Config.nKeys) :
    execCommand (.keyUp id) s = .next (s.keyUp id) := if_pos h

theorem execCommand_keyUp_of_ge (h : Config.nKeys ≤ id) :
    execCommand (.keyUp id) s = .refused (.keyIdOutOfRange id) := if_neg h.not_gt

end

/-- Settles O53: the first length and the first id outside the duty are where the command is refused. -/
theorem brokenHostDutiesAreRefused : Obligations.BrokenHostDutiesAreRefused := fun _ _ _ _ =>
  ⟨fun hh h => (step_of_host_cons hh).trans (execCommand_load_of_gt _ h),
    fun hh h => (step_of_host_cons hh).trans (execCommand_keyDown_of_ge _ h),
    fun hh h => (step_of_host_cons hh).trans (execCommand_keyUp_of_ge _ h)⟩

/-! ### A command does not look at the commands after it -/

/-- An answer with its next state changed by `f`. -/
def onNext (f : State → State) : Result → Result
  | .next t => .next (f t)
  | .fault r => .fault r
  | .refused r => .refused r

theorem cycle_setHost (s : State) (cs : List Command) :
    cycle (s.setHost cs) = onNext (·.setHost cs) (cycle s) := by
  obtain ⟨hr, h⟩ | ⟨i, hr, hd, h⟩ | ⟨e, hr, hd, h⟩ := cycle_cases s
  · rw [h, cycle_of_not_run (s := s.setHost cs) hr]
    rfl
  · obtain ⟨t, ht, -⟩ := exec_completes i s.advance
    rw [h, ht, cycle_of_ok (s := s.setHost cs) hr hd]
    exact exec_setHost cs ht
  · rw [h, cycle_of_error (s := s.setHost cs) hr hd]
    rfl

theorem frame_setHost (s : State) (cs : List Command) :
    frame (s.setHost cs) = (frame s).setHost cs := by
  rw [frame_eq, frame_eq, State.run_setHost]
  split <;> rfl

theorem execCommand_setHost (c : Command) (s : State) (cs : List Command) :
    execCommand c (s.setHost cs) = onNext (·.setHost cs) (execCommand c s) := by
  cases c with
  | load bytes => simp only [execCommand]; split <;> rfl
  | keyDown id => simp only [execCommand]; split <;> rfl
  | keyUp id => simp only [execCommand]; split <;> rfl
  | cycle => exact cycle_setHost s cs
  | frame => exact congrArg Host.Outcome.next (frame_setHost s cs)
  | getFrame => rfl

/-- No command changes the list: it answers alike whatever the list is, the one it is given included. -/
theorem host_of_execCommand {c : Command} {s t : State} (ht : execCommand c s = .next t) :
    t.host = s.host := by
  have h : .next t = onNext (·.setHost s.host) (.next t) := ht ▸ execCommand_setHost c s s.host
  have hset : t = t.setHost s.host := Host.Outcome.next.inj h
  exact (congrArg State.host hset).trans rfl

/-! ### Steps and commands (R11, R15) -/

theorem run_setHost_eq_runCommands (cs : List Command) {s : State} (hs : s.host = []) :
    Host.Core.run Sys2Proof.core cs.length (s.setHost cs) = runCommands cs s := by
  induction cs generalizing s with
  | nil =>
    have hself : s.setHost [] = s := by rw [← hs]; rfl
    exact congrArg Host.Outcome.next hself
  | cons c cs ih =>
    have hstep : Sys2Proof.core.step (s.setHost (c :: cs)) = onNext (·.setHost cs) (execCommand c s) :=
      (step_of_host_cons (s := s.setHost (c :: cs)) rfl).trans (execCommand_setHost c s cs)
    simp only [List.length_cons, Host.Core.run, hstep, runCommands]
    cases ht : execCommand c s with
    | next t => exact ih ((host_of_execCommand ht).trans hs)
    | fault r => rfl
    | refused r => rfl

/-- Settles O58: by induction on the commands, each of which answers the same with the rest of the list
waiting as with none. -/
theorem stepsRunTheHostsCommandsInOrder : Obligations.StepsRunTheHostsCommandsInOrder :=
  fun cs _ hs => run_setHost_eq_runCommands cs hs

/-- Settles O59: a TICK is such a list of commands. -/
theorem tickIsItsCyclesThenAFrame : Obligations.TickIsItsCyclesThenAFrame := fun s hs => by
  have hlen : s.tickCommands.length = s.cyclesPerFrame + 1 := by
    rw [State.tickCommands, List.length_append, List.length_replicate, List.length_singleton]
  rw [← hlen]
  exact run_setHost_eq_runCommands s.tickCommands hs

/-! ### Runs that never stop (R14, R222) -/

theorem cycle_completes (s : State) : ∃ t, cycle s = .next t := by
  obtain ⟨-, h⟩ | ⟨i, -, -, h⟩ | ⟨e, -, -, h⟩ := cycle_cases s
  · exact ⟨s, h⟩
  · obtain ⟨t, ht, -⟩ := exec_completes i s.advance
    exact ⟨t, h.trans ht⟩
  · exact ⟨_, h⟩

theorem execCommand_completes {c : Command} (hc : c.wellFormed = true) (s : State) :
    ∃ t, execCommand c s = .next t := by
  cases c with
  | load bytes => exact ⟨_, execCommand_load_of_le s (of_decide_eq_true hc)⟩
  | keyDown id => exact ⟨_, execCommand_keyDown_of_lt s (of_decide_eq_true hc)⟩
  | keyUp id => exact ⟨_, execCommand_keyUp_of_lt s (of_decide_eq_true hc)⟩
  | cycle => exact cycle_completes s
  | frame => exact ⟨_, rfl⟩
  | getFrame => exact ⟨_, rfl⟩

/-- A step takes one command, so that the host's duties hold of the rest. -/
theorem step_completes {s : State} (hs : s.HostKeepsDuties) :
    ∃ t, step s = .next t ∧ t.HostKeepsDuties := by
  cases hh : s.host with
  | nil =>
    obtain ⟨t, ht⟩ := cycle_completes s
    refine ⟨t, (step_of_host_nil hh).trans ht, ?_⟩
    rwa [State.HostKeepsDuties, host_of_execCommand (c := .cycle) ht]
  | cons c cs =>
    rw [State.HostKeepsDuties, hh, List.forall_mem_cons] at hs
    obtain ⟨hc, hcs⟩ := hs
    obtain ⟨t, ht⟩ := execCommand_completes hc (s.setHost cs)
    refine ⟨t, (step_of_host_cons hh).trans ht, ?_⟩
    rwa [State.HostKeepsDuties, host_of_execCommand ht]

/-- Settles O57: by induction on the number of steps, each of which completes and leaves the host's duties
kept. -/
theorem runsNeverStop : Obligations.RunsNeverStop := fun k => by
  induction k with
  | zero => exact fun s _ => ⟨s, rfl⟩
  | succ k ih =>
    intro s hs
    obtain ⟨t, ht, hduties⟩ := step_completes hs
    rw [SafeFor, run_succ_of_next ht]
    exact ih t hduties

end Sys2Proof
end

section
/-! PROOF. The host's commands one at a time (spec/45_input_timers.md rule R201; spec/60_exceptions.md
rules R235 and R237; spec/70_reset_and_hazards.md rule R252; spec/10_state.md rules R38 and R39). -/

namespace Sys2Proof

open Sys2Proof.Machine

/-! ### GET_FRAME and the key commands (R184, R201) -/

/-- Settles O40: the command answers the state it is given, and the grid is a field of it. -/
theorem getFrameAnswersTheGrid : Obligations.GetFrameAnswersTheGrid := fun _ _ hh =>
  ⟨step_of_host_cons hh, rfl⟩

theorem isPressed_keyDown (s : State) {id : Nat} (hid : id < Config.nKeys) (k : Nat) :
    (s.keyDown id).isPressed k = (decide (k = id) || s.isPressed k) := by
  rw [State.keyDown, State.isPressed, State.keys_setKeys, Vector.getElem?_setIfInBounds]
  by_cases hk : k = id
  · simp [hk, hid]
  · simp [hk, Ne.symm hk, State.isPressed]

theorem isPressed_keyUp (s : State) {id : Nat} (hid : id < Config.nKeys) (k : Nat) :
    (s.keyUp id).isPressed k = (!decide (k = id) && s.isPressed k) := by
  rw [State.keyUp, State.isPressed, State.keys_setKeys, Vector.getElem?_setIfInBounds]
  by_cases hk : k = id
  · simp [hk, hid]
  · simp [hk, Ne.symm hk, State.isPressed]

/-- Settles O45: each command writes one entry of KEYS, and its id is in range. -/
theorem keyCommandsChangeOneKey : Obligations.KeyCommandsChangeOneKey := fun s id cs hid =>
  ⟨fun hh => ⟨(s.setHost cs).keyDown id,
      (step_of_host_cons hh).trans (execCommand_keyDown_of_lt _ hid), rfl,
      isPressed_keyDown (s.setHost cs) hid⟩,
    fun hh => ⟨(s.setHost cs).keyUp id,
      (step_of_host_cons hh).trans (execCommand_keyUp_of_lt _ hid), rfl,
      isPressed_keyUp (s.setHost cs) hid⟩⟩

/-! ### FRAME (R235, R237) -/

/-- The timers of R235 as numbers: one lower, and no lower than 0. -/
theorem countedDown_eq (b : Byte) :
    (if b = 0 then 0 else b - 1) = BitVec.ofNat 8 (b.toNat - 1) := by
  revert b
  decide

/-- The condition of TONE_START in the model and in R235: ST found at 2 is ST made exactly 1. -/
theorem two_iff_counted_to_one (b : Byte) : b = 2 ↔ 0 < b.toNat ∧ b.toNat - 1 = 1 := by
  revert b
  decide

theorem frame_of_run {s : State} (h : s.run = true) : frame s = { s with
    dt := BitVec.ofNat 8 (s.dt.toNat - 1)
    st := BitVec.ofNat 8 (s.st.toNat - 1)
    events := s.events ++ .render s.fb :: (if s.st = 2 then [.toneStart] else []) } := by
  rw [frame_eq, if_pos h, countedDown_eq, countedDown_eq, List.append_assoc, List.singleton_append]

/-- Settles O46: the frame with RUN true as one record, and with RUN false the state as it was. -/
theorem frameRendersAndCountsDown : Obligations.FrameRendersAndCountsDown := fun s cs hh =>
  ⟨fun hr => step_of_not_run hr (.inr hh), fun hr => by
    have hframe := frame_of_run (s := s.setHost cs) hr
    rw [step_of_host_cons hh, execCommand, hframe]
    simp only [← two_iff_counted_to_one]
    rfl⟩

theorem toNat_ofNat_pred (b : Byte) : (BitVec.ofNat 8 (b.toNat - 1)).toNat = b.toNat - 1 :=
  Nat.mod_eq_of_lt ((Nat.sub_le _ _).trans_lt b.isLt)

/-- Settles O48: by induction on the number of FRAMEs, each of which lowers the timers by one. -/
theorem timersReachZeroAfterTheirFrames :
    Obligations.TimersReachZeroAfterTheirFrames := fun n => by
  induction n with
  | zero => exact fun s hr _ => ⟨s, rfl, hr, rfl, rfl⟩
  | succ n ih =>
    intro s hr hh
    have hstep : step s = .next (frame (s.setHost (.replicate n .frame))) := step_of_host_cons hh
    have hframe := frame_of_run (s := s.setHost (.replicate n .frame)) hr
    obtain ⟨t, ht, hrun, hdt, hst⟩ := ih (frame (s.setHost (.replicate n .frame)))
      (by rw [hframe]; exact hr) (by rw [hframe]; rfl)
    refine ⟨t, (run_succ_of_next hstep).trans ht, hrun, ?_, ?_⟩
    · rw [hdt, hframe, toNat_ofNat_pred, State.dt_setHost]; omega
    · rw [hst, hframe, toNat_ofNat_pred, State.st_setHost]; omega

/-! ### LOAD (R252, R39) -/

theorem step_load {s : State} {bytes : List Byte} {cs : List Command}
    (hh : s.host = .load bytes :: cs) (h : bytes.length ≤ Config.progMax) :
    step s = .next ((s.setHost cs).load bytes) :=
  (step_of_host_cons hh).trans (execCommand_load_of_le _ h)

theorem unlisted_of_lt (font : Config.Font) {a : Nat} (h : a < Config.fontSize) :
    Memory.unlisted font a = font[a] := by
  simp [Memory.unlisted, h]

theorem unlisted_of_ge (font : Config.Font) {a : Nat} (h : Config.fontSize ≤ a) :
    Memory.unlisted font a = 0 := by
  simp [Memory.unlisted, Vector.getElem?_eq_none h]

/-- A byte of memory after a LOAD: FONT, zeros, the program, zeros (R252). -/
theorem memRead_load (s : State) (bytes : List Byte) {a : Nat} (h : a < 0x1000) :
    (s.load bytes).memRead a =
      if 0x200 ≤ a then (bytes[a - 0x200]?).getD (Memory.unlisted s.font a)
      else Memory.unlisted s.font a := by
  have hmod : a % Config.memSize = a := Nat.mod_eq_of_lt h
  rw [State.memRead, hmod]
  exact Memory.read_image ..

theorem isPressed_of_keys_clear {s : State} (h : s.keys = .replicate _ false) (k : Nat) :
    s.isPressed k = false := by
  rw [State.isPressed, h, Vector.getElem?_replicate]
  split <;> rfl

/-- Settles O51: the registers are literal in `State.load`; memory is read below the program, in it and above
it. -/
theorem loadResetsTheBlock : Obligations.LoadResetsTheBlock := fun s bytes cs hh hlen => by
  refine ⟨_, step_load hh hlen, fun x => ?_, rfl, rfl, rfl, fun k => ?_, rfl, rfl, rfl,
    Grid.pixel_cleared, isPressed_of_keys_clear rfl, fun a h => ?_, fun a h h' => ?_, fun k h => ?_,
    fun a h h' => ?_, rfl, rfl, rfl, rfl, rfl, rfl⟩
  · exact Vector.getElem_replicate _
  · exact Vector.getElem_replicate _
  · rw [memRead_load _ _ (by omega), if_neg (by omega), unlisted_of_lt _ h]; rfl
  · rw [memRead_load _ _ (by omega), if_neg (by omega), unlisted_of_ge _ h]
  · rw [memRead_load _ _ (by omega), if_pos (by omega), Nat.add_sub_cancel_left,
      List.getElem?_eq_getElem h, Option.getD_some]
  · rw [memRead_load _ _ h', if_pos (by omega), List.getElem?_eq_none (by omega), Option.getD_none,
      unlisted_of_ge _ (by simp only [Config.fontSize]; omega)]

/-- Settles O52: a LOAD reads no field but the model's own. -/
theorem loadForgetsTheBlock : Obligations.LoadForgetsTheBlock :=
  fun s s' bytes cs hh hh' hfont hcycles hrnd hdraws hevents => by
    have hload : (s.setHost cs).load bytes = (s'.setHost cs).load bytes := by
      simp only [State.load, State.setHost, hfont, hcycles, hrnd, hdraws, hevents]
    rw [step_of_host_cons hh, step_of_host_cons hh', execCommand, execCommand, hload]

/-! ### Construction (R38) -/

theorem memRead_reset {a : Nat} (h : a < 4096) :
    State.reset.memRead a = Memory.unlisted Config.defaultFont a := by
  have hmod : a % Config.memSize = a := Nat.mod_eq_of_lt h
  rw [State.memRead, hmod]
  rfl

/-- Settles O54: the fields are literal in `State.reset`, and every byte of memory is unlisted. -/
theorem stateAfterConstruction : Obligations.StateAfterConstruction :=
  ⟨fun _ => Vector.getElem_replicate _, rfl, rfl, rfl, fun _ => Vector.getElem_replicate _, rfl, rfl,
    fun a h => (memRead_reset (by omega)).trans (unlisted_of_lt _ h),
    fun a h h' => (memRead_reset h').trans (unlisted_of_ge _ h),
    Grid.pixel_cleared, isPressed_of_keys_clear rfl, rfl⟩

end Sys2Proof
end

section
/-! PROOF. What a step can change (spec/10_state.md rules R23, R29 to R31; spec/60_exceptions.md rules R221, R225,
R235 and R236): the kinds of step, said once, and from them events, RUN, KEYS, FB and the invariant. -/

namespace Sys2Proof

open Sys2Proof.Machine

/-! ### The kinds of step -/

/-- What a step can do, with RUN and the word at PC told apart. -/
inductive StepKind (s : State) : State → Prop where
  | idle {cs : List Command} (hc : s.GivesCycle cs ∨ s.host = .frame :: cs) (hr : s.run = false) :
      StepKind s (s.setHost cs)
  | instr {cs : List Command} {i : Instr} {t : State} (hg : s.GivesCycle cs) (hr : s.run = true)
      (hd : decode s.fetch = .ok i) (ht : exec i (s.setHost cs).advance = .next t) : StepKind s t
  | fatal {cs : List Command} (hg : s.GivesCycle cs) (hr : s.run = true)
      (hw : wellFormedWord s.fetch = false) :
      StepKind s ((s.setHost cs).advance.raiseUndefinedOpcode s.fetch)
  | load {bytes : List Byte} {cs : List Command} (hh : s.host = .load bytes :: cs)
      (hlen : bytes.length ≤ Config.progMax) : StepKind s ((s.setHost cs).load bytes)
  | keyDown {id : Nat} {cs : List Command} (hh : s.host = .keyDown id :: cs) :
      StepKind s ((s.setHost cs).keyDown id)
  | keyUp {id : Nat} {cs : List Command} (hh : s.host = .keyUp id :: cs) :
      StepKind s ((s.setHost cs).keyUp id)
  | frame {cs : List Command} (hh : s.host = .frame :: cs) (hr : s.run = true) :
      StepKind s { s with
        dt := BitVec.ofNat 8 (s.dt.toNat - 1)
        st := BitVec.ofNat 8 (s.st.toNat - 1)
        events := s.events ++ .render s.fb :: (if s.st = 2 then [.toneStart] else [])
        host := cs }
  | getFrame {cs : List Command} (hh : s.host = .getFrame :: cs) : StepKind s (s.setHost cs)

section
variable {s t : State} {cs : List Command}

theorem stepKind_of_cycle (hg : s.GivesCycle cs) (ht : step s = .next t) : StepKind s t := by
  cases hr : s.run with
  | false =>
    cases (step_of_not_run hr (.inl hg)).symm.trans ht
    exact .idle (.inl hg) hr
  | true =>
    cases hd : decode s.fetch with
    | ok i => exact .instr hg hr hd ((step_of_ok hg hr hd).symm.trans ht)
    | error e =>
      obtain ⟨-, hw⟩ := illegalVerdict_of_decode hd
      cases (step_of_error hg hr hd).symm.trans ht
      exact .fatal hg hr hw

theorem stepKind_of_frame (hh : s.host = .frame :: cs) : StepKind s (frame (s.setHost cs)) := by
  cases hr : s.run with
  | false =>
    rw [frame_of_not_run (s := s.setHost cs) hr]
    exact .idle (.inr hh) hr
  | true =>
    rw [frame_of_run (s := s.setHost cs) hr]
    exact .frame hh hr

theorem stepKind_of_step (ht : step s = .next t) : StepKind s t := by
  cases hh : s.host with
  | nil => exact stepKind_of_cycle (.inl ⟨hh, rfl⟩) ht
  | cons c cs =>
    have hc : execCommand c (s.setHost cs) = .next t := (step_of_host_cons hh).symm.trans ht
    cases c with
    | load bytes =>
      obtain h | h := le_or_gt bytes.length Config.progMax
      · cases (execCommand_load_of_le _ h).symm.trans hc
        exact .load hh h
      · cases (execCommand_load_of_gt _ h).symm.trans hc
    | keyDown id =>
      obtain h | h := lt_or_ge id Config.nKeys
      · cases (execCommand_keyDown_of_lt _ h).symm.trans hc
        exact .keyDown hh
      · cases (execCommand_keyDown_of_ge _ h).symm.trans hc
    | keyUp id =>
      obtain h | h := lt_or_ge id Config.nKeys
      · cases (execCommand_keyUp_of_lt _ h).symm.trans hc
        exact .keyUp hh
      · cases (execCommand_keyUp_of_ge _ h).symm.trans hc
    | cycle => exact stepKind_of_cycle (.inr hh) ht
    | frame =>
      cases hc
      exact stepKind_of_frame hh
    | getFrame =>
      cases hc
      exact .getFrame hh

theorem head?_ne_of_givesCycle (hg : s.GivesCycle cs) {c : Command} (hc : c ≠ .cycle) :
    s.host.head? ≠ some c := by
  obtain ⟨h, -⟩ | h := hg
  · simp [h]
  · simp [h, Ne.symm hc]

theorem not_givesCycle_of_head? {c : Command} (hh : s.host.head? = some c) (hc : c ≠ .cycle) :
    ¬ ∃ cs, s.GivesCycle cs := fun ⟨_, hg⟩ => head?_ne_of_givesCycle hg hc hh

/-! ### Events (R236) -/

/-- The statement of `Obligations.EventsComeOnlyFromTheirCauses` about one step, with the events it adds. -/
def EventsFromCauses (s : State) (new : List Event) : Prop :=
  new.count .toneStart = (if s.run = true ∧ s.st = 2 ∧ s.host.head? = some .frame then 1 else 0) ∧
  (∀ g, .render g ∈ new ↔ s.run = true ∧ s.host.head? = some .frame ∧ g = s.fb) ∧
  (∀ w, .fatal w ∈ new ↔
    s.run = true ∧ (∃ cs, s.GivesCycle cs) ∧ w = s.fetch ∧ wellFormedWord w = false)

theorem eventsFromCauses_nil (hf : s.run = true → s.host.head? ≠ some .frame)
    (hw : s.run = true → (∃ cs, s.GivesCycle cs) → wellFormedWord s.fetch = true) :
    EventsFromCauses s [] := by
  refine ⟨?_, fun g => ?_, fun w => ?_⟩
  · rw [if_neg fun ⟨hr, _, hh⟩ => hf hr hh, List.count_nil]
  · exact iff_of_false List.not_mem_nil fun ⟨hr, hh, _⟩ => hf hr hh
  · refine iff_of_false List.not_mem_nil ?_
    rintro ⟨hr, hg, rfl, h⟩
    exact absurd ((hw hr hg).symm.trans h) (by decide)

theorem eventsFromCauses_nil_of_head? {c : Command} (hh : s.host.head? = some c) (hc : c ≠ .cycle)
    (hc' : c ≠ .frame) : EventsFromCauses s [] :=
  eventsFromCauses_nil (fun _ h => hc' (Option.some.inj (hh.symm.trans h)))
    fun _ hg => absurd hg (not_givesCycle_of_head? hh hc)

theorem eventsFromCauses_fatal (hg : s.GivesCycle cs) (hr : s.run = true)
    (hw : wellFormedWord s.fetch = false) : EventsFromCauses s [.fatal s.fetch] := by
  have hf := head?_ne_of_givesCycle hg (c := .frame) (by decide)
  refine ⟨?_, fun g => ?_, fun w => ?_⟩
  · rw [if_neg fun ⟨_, _, hh⟩ => hf hh]; rfl
  · simp [hf]
  · have hg' : ∃ cs, s.GivesCycle cs := ⟨cs, hg⟩
    simp only [List.mem_singleton, Event.fatal.injEq, hr, hg', true_and]
    exact ⟨fun h => ⟨h, h ▸ hw⟩, And.left⟩

theorem eventsFromCauses_frame (hh : s.host.head? = some .frame) (hr : s.run = true) :
    EventsFromCauses s (.render s.fb :: if s.st = 2 then [.toneStart] else []) := by
  have hg := not_givesCycle_of_head? hh (by decide)
  refine ⟨?_, fun g => ?_, fun w => ?_⟩
  · by_cases hst : s.st = 2
    · rw [if_pos hst, if_pos ⟨hr, hst, hh⟩]; rfl
    · rw [if_neg hst, if_neg fun h => hst h.2.1]; rfl
  · by_cases hst : s.st = 2 <;> simp [hr, hh, hst]
  · by_cases hst : s.st = 2 <;> simp [hg, hst]

theorem events_of_step_other {c : Command} (hev : t.events = s.events) (hh : s.host = c :: cs)
    (hc : c ≠ .cycle) (hc' : c ≠ .frame) : ∃ new, t.events = s.events ++ new ∧ EventsFromCauses s new :=
  ⟨[], hev.trans (List.append_nil _).symm,
    eventsFromCauses_nil_of_head? (congrArg List.head? hh) hc hc'⟩

theorem events_of_step (h : StepKind s t) :
    ∃ new, t.events = s.events ++ new ∧ EventsFromCauses s new := by
  cases h with
  | idle _ hr =>
    exact ⟨[], (List.append_nil _).symm, eventsFromCauses_nil (by simp [hr]) (by simp [hr])⟩
  | instr hg hr hd ht =>
    refine ⟨[], (exec_changesOnly ht).events.trans (List.append_nil _).symm, eventsFromCauses_nil
      (fun _ => head?_ne_of_givesCycle hg (by decide)) fun _ _ => wellFormedWord_of_decode hd⟩
  | fatal hg hr hw => exact ⟨_, rfl, eventsFromCauses_fatal hg hr hw⟩
  | load hh _ => exact events_of_step_other rfl hh nofun nofun
  | keyDown hh => exact events_of_step_other rfl hh nofun nofun
  | keyUp hh => exact events_of_step_other rfl hh nofun nofun
  | frame hh hr => exact ⟨_, rfl, eventsFromCauses_frame (congrArg List.head? hh) hr⟩
  | getFrame hh => exact events_of_step_other rfl hh nofun nofun

end

/-- Settles O47: by the kinds of step, each with the events it adds. -/
theorem eventsComeOnlyFromTheirCauses : Obligations.EventsComeOnlyFromTheirCauses :=
  fun _ _ ht => events_of_step (stepKind_of_step ht)

/-! ### RUN (R31, R225) -/

section
variable {s t : State} {cs : List Command}

theorem run_of_load {bytes : List Byte} (ht : step s = .next t) (hh : s.host = .load bytes :: cs) :
    t.run = true := by
  obtain h | h := le_or_gt bytes.length Config.progMax
  · cases (step_load hh h).symm.trans ht; rfl
  · cases ((step_of_host_cons hh).trans (execCommand_load_of_gt _ h)).symm.trans ht

theorem run_of_illegal (ht : step s = .next t) (hg : s.GivesCycle cs) (hr : s.run = true)
    (hw : wellFormedWord s.fetch = false) : t.run = false := by
  have hd := (decode_eq_error_iff s.fetch).2 hw
  cases (illegalWordHaltsTheBlock s cs _ hg hr hd).symm.trans ht
  rfl

theorem run_changes_of_step (h : StepKind s t) (hne : t.run ≠ s.run) :
    (∃ bytes cs, s.host = .load bytes :: cs) ∨
    (∃ cs, s.GivesCycle cs ∧ s.run = true ∧ wellFormedWord s.fetch = false) := by
  cases h with
  | idle | keyDown | keyUp | frame | getFrame => exact absurd rfl hne
  | instr hg hr hd ht => exact absurd (exec_changesOnly ht).run hne
  | fatal hg hr hw => exact .inr ⟨_, hg, hr, hw⟩
  | load hh _ => exact .inl ⟨_, _, hh⟩

end

/-- Settles O49: a LOAD and a fatal step by what they leave, every other kind of step by its form. -/
theorem runIsWrittenOnlyByLoadAndFatal : Obligations.RunIsWrittenOnlyByLoadAndFatal :=
  fun _ _ ht => ⟨fun _ _ hh => run_of_load ht hh, fun _ hg hr hw => run_of_illegal ht hg hr hw,
    run_changes_of_step (stepKind_of_step ht),
    fun _ hr hc => (Host.Outcome.next.inj ((step_of_not_run hr hc).symm.trans ht)).symm⟩

/-! ### KEYS and FB (R30, R29) -/

section
variable {s t : State}

theorem keys_change_of_step (h : StepKind s t) (hne : t.keys ≠ s.keys) :
    (∃ id cs, s.host = .keyDown id :: cs) ∨ (∃ id cs, s.host = .keyUp id :: cs) ∨
    ∃ bytes cs, s.host = .load bytes :: cs := by
  cases h with
  | idle | frame | getFrame | fatal => exact absurd rfl hne
  | instr hg hr hd ht => exact absurd (exec_changesOnly ht).keys hne
  | load hh _ => exact .inr (.inr ⟨_, _, hh⟩)
  | keyDown hh => exact .inl ⟨_, _, hh⟩
  | keyUp hh => exact .inr (.inl ⟨_, _, hh⟩)

theorem fb_changes_of_step (h : StepKind s t) (hne : t.fb ≠ s.fb) :
    (∃ bytes cs, s.host = .load bytes :: cs) ∨
    ((∃ cs, s.GivesCycle cs) ∧
      (decode s.fetch = .ok .op00E0 ∨ ∃ x y n, decode s.fetch = .ok (.opDXYN x y n))) := by
  cases h with
  | idle | frame | getFrame | fatal | keyDown | keyUp => exact absurd rfl hne
  | instr hg hr hd ht =>
    refine .inr ⟨⟨_, hg⟩, ?_⟩
    obtain rfl | ⟨x, y, n, rfl⟩ := fb_mem_writes (not_imp_comm.1 (exec_changesOnly ht).fb hne)
    · exact .inl hd
    · exact .inr ⟨x, y, n, hd⟩
  | load hh _ => exact .inl ⟨_, _, hh⟩

theorem arguments_of_step (h : StepKind s t) :
    t.font = s.font ∧ t.cyclesPerFrame = s.cyclesPerFrame := by
  cases h with
  | idle | frame | getFrame | fatal | keyDown | keyUp | load => exact ⟨rfl, rfl⟩
  | instr hg hr hd ht => exact ⟨(exec_changesOnly ht).font, (exec_changesOnly ht).cyclesPerFrame⟩

end

/-- Settles O50: by the kinds of step; of the instructions, the access matrix says which write FB. -/
theorem whoChangesKeysAndDisplay : Obligations.WhoChangesKeysAndDisplay := fun _ _ ht =>
  have h := stepKind_of_step ht
  ⟨keys_change_of_step h, fb_changes_of_step h, arguments_of_step h⟩

/-! ### The invariant (R23; log entry 21) -/

theorem toNat_zext16_lt (nnn : Addr) : (zext16 nnn).toNat < Config.memSize := by
  rw [zext16_eq_ofNat]
  exact (Nat.mod_le _ _).trans_lt nnn.isLt

section
variable {i : Instr} {s t : State}

/-- Every instruction keeps memory canonical: the stores do, and no other writes memory. -/
theorem exec_keeps_wf (ht : exec i s = .next t) (hs : s.mem.wf s.font = true) :
    t.mem.wf t.font = true := by
  have hc := exec_changesOnly ht
  by_cases hp : Part.mem ∈ writes i
  · obtain ⟨x, rfl⟩ | ⟨x, rfl⟩ := mem_mem_writes hp
    all_goals
      cases ht
      rw [State.mem_keepingVF, State.font_keepingVF, State.font_storeFrom]
      exact State.wf_storeFrom 0 _ hs
  · rw [hc.mem hp, hc.font]
    exact hs

/-- Every instruction that writes I leaves a value below 4096 in it: NNN, a sum modulo 4096 (R161), or a glyph's
address. -/
theorem exec_keeps_i_lt (ht : exec i s = .next t) (hs : s.i.toNat < Config.memSize) :
    t.i.toNat < Config.memSize := by
  by_cases hp : Part.i ∈ writes i
  · obtain ⟨nnn, rfl⟩ | ⟨x, rfl⟩ | ⟨x, rfl⟩ := i_mem_writes hp
    · cases ht
      exact toNat_zext16_lt nnn
    · cases ht
      have hsum : (s.i.toNat + (s.getV x).toNat) % Config.memSize < Config.memSize :=
        Nat.mod_lt _ (by decide)
      exact (Nat.mod_le _ _).trans_lt hsum
    · cases ht
      have hx := (s.getV x).isLt
      exact (Nat.mod_le _ _).trans_lt (by simp only [Config.glyphBytes, Config.memSize]; omega)
  · rw [(exec_changesOnly ht).i hp]
    exact hs

theorem exec_keeps_inv (ht : exec i s = .next t) (hs : s.Inv) : t.Inv := by
  obtain ⟨hmem, hi⟩ := hs
  exact ⟨exec_keeps_wf ht hmem, exec_keeps_i_lt ht hi⟩

/-- The invariant speaks of memory, FONT and I alone. -/
theorem inv_congr (hmem : t.mem = s.mem) (hfont : t.font = s.font) (hi : t.i = s.i) (hs : s.Inv) :
    t.Inv := by
  rwa [State.Inv, hmem, hfont, hi]

theorem load_inv (s : State) {bytes : List Byte} (h : bytes.length ≤ Config.progMax) :
    (s.load bytes).Inv :=
  ⟨Memory.wf_image (Nat.add_le_add_left h Config.progBase),
    show (0 : Word).toNat < Config.memSize by decide⟩

theorem stepKind_keeps_inv (h : StepKind s t) (hs : s.Inv) : t.Inv := by
  cases h with
  | idle | fatal | keyDown | keyUp | frame | getFrame => exact inv_congr rfl rfl rfl hs
  | instr _ _ _ ht => exact exec_keeps_inv ht (inv_congr rfl rfl rfl hs)
  | load _ hlen => exact load_inv _ hlen

end

/-- Settles O56: by the kinds of step. LOAD makes the invariant, an instruction keeps it by what it may write,
and the others touch neither memory nor I. -/
theorem everyStepKeepsTheInvariant : Obligations.EveryStepKeepsTheInvariant :=
  fun _ _ hs ht => stepKind_keeps_inv (stepKind_of_step ht) hs

/-- Settles O55: no cell is listed, and I is 0. -/
theorem invariantHoldsAtReset : Obligations.InvariantHoldsAtReset := ⟨Memory.wf_nil _, by decide⟩

end Sys2Proof
end

section
/-! PROOF. Jump, call and return (spec/41_control_flow.md rules R111 to R115, R120 and R121). -/

namespace Sys2Proof

open Sys2Proof.Machine

/-- The sum of R120 in 12 bits. -/
theorem addr_add_zext12 (nnn : Addr) (b : Byte) :
    nnn + zext12 b = BitVec.ofNat 12 ((nnn.toNat + b.toNat) % 4096) := by
  apply BitVec.eq_of_toNat_eq
  simp [zext12]

/-- Settles O19: the model adds in 12 bits, which is the sum modulo 4096. -/
theorem jumpWithOffsetAddsV0 : Obligations.JumpWithOffsetAddsV0 := fun s nnn =>
  exec_changes_only_pc (exec_opBNNN s nnn) (congrArg s.setPc (addr_add_zext12 nnn (s.getV 0)))

theorem exec_op2NNN_eq_next (s : State) (nnn : Addr) :
    exec (.op2NNN nnn) s = .next ((s.push s.pc).setPc nnn) :=
  exec_eq_next_of_getV_VF_eq (exec_op2NNN s nnn) (s.getV_push s.pc 0xF)

theorem exec_op00EE_eq_next (s : State) : exec .op00EE s = .next (s.pop.setPc s.popped) :=
  exec_eq_next_of_getV_VF_eq (exec_op00EE s) (s.getV_pop 0xF)

theorem nibble_succ (n : Nibble) : n + 1 = BitVec.ofNat 4 ((n.toNat + 1) % 16) := by
  revert n
  decide

theorem nibble_pred (n : Nibble) : n - 1 = BitVec.ofNat 4 ((n.toNat + 15) % 16) := by
  revert n
  decide

/-- Settles O20: a push writes one entry and moves SP, and the jump writes PC. -/
theorem callPushesTheReturnAddress : Obligations.CallPushesTheReturnAddress := fun s nnn => by
  refine ⟨_, exec_op2NNN_eq_next s nnn, ?_, fun k => ?_, fun n => rfl⟩
  · rw [← nibble_succ]
    rfl
  · rw [State.getStack_setPc, State.push, State.getStack_setSp, State.getStack_setStack]

/-- Settles O21: a pop moves SP alone, and PC is the entry it points at then. -/
theorem returnPopsIntoPc : Obligations.ReturnPopsIntoPc := fun s => by
  refine ⟨_, exec_op00EE_eq_next s, ?_, fun n => rfl⟩
  rw [← nibble_pred]
  rfl

/-- A pop looks at the stack and its pointer alone. -/
theorem popped_congr {s t : State} (hsp : t.sp = s.sp) (hstack : t.stack = s.stack) :
    t.popped = s.popped := by
  simp only [State.popped, State.getStack, hsp, hstack]

/-- Settles O22: what a push leaves is what the pop after it takes, and SP is back. -/
theorem returnComesBackToTheCaller : Obligations.ReturnComesBackToTheCaller :=
  fun s t u nnn ht hsp hstack => by
    cases (exec_op2NNN_eq_next s nnn).symm.trans ht
    obtain ⟨hpopped, hback⟩ := s.popped_push s.pc
    refine ⟨_, exec_op00EE_eq_next u, ?_, ?_⟩
    · exact (popped_congr hsp hstack).trans hpopped
    · rw [State.sp_setPc, State.sp_pop, hsp]
      exact hback

end Sys2Proof
end

section
/-! PROOF. The ALU instructions with a flag, and CXNN (spec/42_register_alu.md rules R137 to R142): the
model's byte operations as the arithmetic of the rules. -/

namespace Sys2Proof

open Sys2Proof.Machine

/-- An instruction that puts a result in Vx and then its flag in VF changes these two registers alone, and VF keeps
the flag when X = F (R98). -/
theorem exec_changes_only_vx_and_flag {i : Instr} {s : State} {x : Nibble} {r r' f : Byte} {b : Bool}
    (hi : exec i s = .next ((s.setV x r).setFlag b)) (hr : r = r') (hf : flagByte b = f) :
    ∃ t, exec i s = .next t ∧ t = { s with v := t.v } ∧ KeepsMemory s t ∧
      ∀ z, t.getV z = if z = 0xF then f else if z = x then r' else s.getV z := by
  refine ⟨_, hi, rfl, fun n => rfl, fun z => ?_⟩
  rw [State.setFlag, State.getV_setV, State.getV_setV, hr, hf]

theorem flagByte_decide (p : Prop) [Decidable p] : flagByte (decide p) = if p then 1 else 0 := by
  simp [flagByte]

/-- Settles O26: the sum of two bytes is their sum modulo 256. -/
theorem addWithCarry : Obligations.AddWithCarry := fun s x y => by
  refine exec_changes_only_vx_and_flag (exec_op8XY4 s x y) ?_ (flagByte_decide _)
  exact BitVec.eq_of_toNat_eq (by simp)

theorem byte_sub_eq (b c : Byte) : b - c = BitVec.ofNat 8 ((b.toNat + 256 - c.toNat) % 256) := by
  apply BitVec.eq_of_toNat_eq
  have hc := c.isLt
  rw [BitVec.toNat_sub, BitVec.toNat_ofNat]
  omega

/-- Settles O27: the difference of two bytes is their difference modulo 256, and the flag is the strict
comparison. -/
theorem subtractWithStrictNoBorrow : Obligations.SubtractWithStrictNoBorrow := fun s x y =>
  ⟨exec_changes_only_vx_and_flag (exec_op8XY5 s x y) (byte_sub_eq _ _) (flagByte_decide _),
    exec_changes_only_vx_and_flag (exec_op8XY7 s x y) (byte_sub_eq _ _) (flagByte_decide _)⟩

theorem byte_shiftRight_one (b : Byte) : b >>> 1 = BitVec.ofNat 8 (b.toNat / 2) := by
  revert b
  decide

theorem byte_shiftLeft_one (b : Byte) : b <<< 1 = BitVec.ofNat 8 (b.toNat * 2 % 256) := by
  revert b
  decide

theorem flagByte_shiftedOutRight (b : Byte) :
    flagByte (shiftedOutRight b) = BitVec.ofNat 8 (b.toNat % 2) := by
  revert b
  decide

theorem flagByte_shiftedOutLeft (b : Byte) :
    flagByte (shiftedOutLeft b) = BitVec.ofNat 8 (b.toNat / 128) := by
  revert b
  decide

/-- Settles O28: a shift by one is a division or a multiplication by 2, and the bit shifted out is the lowest or
the highest of the byte. -/
theorem shiftsByOne : Obligations.ShiftsByOne := fun s x y =>
  ⟨exec_changes_only_vx_and_flag (exec_op8XY6 s x y) (byte_shiftRight_one _) (flagByte_shiftedOutRight _),
    exec_changes_only_vx_and_flag (exec_op8XYE s x y) (byte_shiftLeft_one _) (flagByte_shiftedOutLeft _)⟩

theorem drawn_of_rnd_eq_cons {s : State} {r : Byte} {rest : List Byte} (h : s.rnd = r :: rest) :
    s.drawn = r := by
  rw [State.drawn, h]

/-- Settles O29: the draw takes the first byte off the supply, and the write to Vx is undone for X = F. -/
theorem randomByteIsMasked : Obligations.RandomByteIsMasked := fun s x nn => by
  have hval (z : Nibble) := getV_keepingVF_of_getV (h := fun s => s.afterDraw.setV x (s.drawn &&& nn))
    (s := s) (s.afterDraw.getV_setV x z (s.drawn &&& nn))
  refine ⟨_, exec_opCXNN s x nn, ?_, fun n => rfl, fun z hz => ?_, fun hx => ⟨?_, fun r rest hr => ?_⟩⟩
  · rw [List.drop_one]
    rfl
  · rw [hval, if_neg (by tauto)]
  · rw [hval, if_pos ⟨rfl, hx⟩, BitVec.and_assoc, BitVec.and_not_self]
    exact BitVec.and_zero
  · rw [hval, if_pos ⟨rfl, hx⟩, drawn_of_rnd_eq_cons hr]

end Sys2Proof
end

section
/-! PROOF. Memory through I, fetch of stored code, and memory's canonical form (spec/43_memory_index.md rules R164
to R168; spec/20_memory.md rule R64). -/

namespace Sys2Proof

open Sys2Proof.Machine

/-! ### Stores (R164, R166) -/

theorem exec_opFX33_eq_next (s : State) (x : Nibble) :
    exec (.opFX33 x) s = .next (s.storeFrom 0 (decimalDigits (s.getV x))) :=
  exec_eq_next_of_getV_VF_eq (exec_opFX33 s x) (State.getV_storeFrom ..)

theorem exec_opFX55_eq_next (s : State) (x : Nibble) :
    exec (.opFX55 x) s = .next (s.storeFrom 0 (s.regsUpTo x)) :=
  exec_eq_next_of_getV_VF_eq (exec_opFX55 s x) (State.getV_storeFrom ..)

theorem storeFrom_changes_only_mem (s : State) (k : Nat) (bytes : List Byte) :
    s.storeFrom k bytes = { s with mem := (s.storeFrom k bytes).mem } := s.storeFrom_eq k bytes

/-- Byte j of a store at I of at most 4096 bytes. -/
theorem memRead_store {s : State} {bytes : List Byte} {j : Nat} {b : Byte} (hj : bytes[j]? = some b)
    (hl : bytes.length ≤ Config.memSize) : (s.storeFrom 0 bytes).memRead (s.ea j) = b := by
  obtain ⟨hlt, rfl⟩ := List.getElem?_eq_some_iff.1 hj
  have h := s.memRead_storeFrom 0 bytes j hlt hl
  rwa [Nat.zero_add] at h

/-- A byte at none of the addresses of a store at I is as it was. -/
theorem memRead_store_of_ne {s : State} {bytes : List Byte} {a : Nat}
    (h : ∀ j < bytes.length, a % 4096 ≠ s.ea j) : (s.storeFrom 0 bytes).memRead a = s.memRead a :=
  s.memRead_storeFrom_of_ne 0 bytes a fun j hj => by rw [Nat.zero_add]; exact h j hj

theorem length_decimalDigits_le (b : Byte) : (decimalDigits b).length ≤ Config.memSize :=
  show 3 ≤ 4096 by decide

/-- Settles O31: the digits are bytes 0 to 2 of one store at I. -/
theorem decimalDigitsAreStored : Obligations.DecimalDigitsAreStored := fun s x =>
  have hl := length_decimalDigits_le (s.getV x)
  ⟨_, exec_opFX33_eq_next s x, storeFrom_changes_only_mem .., memRead_store rfl hl,
    memRead_store rfl hl, memRead_store rfl hl, fun _ h => memRead_store_of_ne h⟩

theorem regsUpTo_getElem? (s : State) {x k : Nibble} (h : k.toNat ≤ x.toNat) :
    (s.regsUpTo x)[k.toNat]? = some (s.getV k) := by
  have hlt : k.toNat < (s.regsUpTo x).length := by rw [State.length_regsUpTo]; omega
  rw [List.getElem?_eq_getElem hlt, State.getElem_regsUpTo]

theorem length_regsUpTo_le (s : State) (x : Nibble) : (s.regsUpTo x).length ≤ Config.memSize := by
  have := x.isLt
  rw [State.length_regsUpTo, Config.memSize]
  omega

theorem memRead_store_regs (s : State) {x k : Nibble} (h : k.toNat ≤ x.toNat) :
    (s.storeFrom 0 (s.regsUpTo x)).memRead (s.ea k.toNat) = s.getV k :=
  memRead_store (regsUpTo_getElem? s h) (length_regsUpTo_le s x)

/-- The offsets of a store of V0 to Vx, as the register indices 0 to x. -/
theorem forall_offset_of_forall_register {s : State} {x : Nibble} {P : Nat → Prop}
    (h : ∀ k : Nibble, k.toNat ≤ x.toNat → P k.toNat) : ∀ j < (s.regsUpTo x).length, P j := by
  intro j hj
  rw [State.length_regsUpTo] at hj
  have hx := x.isLt
  have hk : (BitVec.ofNat 4 j).toNat = j := Nat.mod_eq_of_lt (by omega)
  exact hk ▸ h (BitVec.ofNat 4 j) (by omega)

/-- Settles O32: Vk is byte k of one store at I. -/
theorem registersAreStored : Obligations.RegistersAreStored := fun s x =>
  ⟨_, exec_opFX55_eq_next s x, storeFrom_changes_only_mem .., fun _ hk => memRead_store_regs s hk,
    fun _ h => memRead_store_of_ne (forall_offset_of_forall_register h)⟩

/-! ### Loads (R168) -/

/-- A register after a load of V0 to Vx, with the write to VF undone (R96). -/
theorem getV_load_regs (s : State) (x y : Nibble) :
    (s.keepingVF (·.loadUpTo x)).getV y =
      if y.toNat ≤ x.toNat ∧ y ≠ 0xF then s.memRead (s.ea y.toNat) else s.getV y := by
  rw [State.getV_keepingVF, State.getV_loadUpTo]
  by_cases hy : y = 0xF
  · rw [if_pos hy, if_neg fun h => h.2 hy, hy]
  · have hcond : y.toNat ≤ x.toNat ∧ y ≠ 0xF ↔ y.toNat ≤ x.toNat := and_iff_left hy
    simp only [if_neg hy, hcond]

/-- Settles O33: by the registers after the load; no other field is written. -/
theorem registersAreLoaded : Obligations.RegistersAreLoaded := fun s x =>
  ⟨_, exec_opFX65 s x, rfl, fun _ => rfl, getV_load_regs s x⟩

/-- Settles O34: the load reads at the addresses of the store, for I is the same, what the store put there. -/
theorem loadingBackRestoresTheRegisters : Obligations.LoadingBackRestoresTheRegisters :=
  fun s t u x ht hmem hfont hi => by
    cases (exec_opFX55_eq_next s x).symm.trans ht
    refine ⟨_, exec_opFX65 u x, fun y hy hF => ?_⟩
    have hea : u.ea y.toNat = s.ea y.toNat := by
      rw [State.ea, hi, State.i_storeFrom, State.ea]
    rw [getV_load_regs, if_pos ⟨hy, hF⟩, memRead_congr hmem hfont, hea, memRead_store_regs s hy]

/-! ### The fetch after a store (R64, R257) -/

/-- What a fetch reads of a store at I, in either half of the word (R64). -/
theorem fetch_after_store {s u : State} {bytes : List Byte} (hl : bytes.length ≤ Config.memSize)
    (hmem : u.mem = (s.storeFrom 0 bytes).mem) (hfont : u.font = (s.storeFrom 0 bytes).font) :
    (∀ j b, bytes[j]? = some b →
      (s.ea j = u.pc.toNat → u.fetch.extractLsb' 8 8 = b) ∧
      (s.ea j = (u.pc.toNat + 1) % 4096 → u.fetch.extractLsb' 0 8 = b)) ∧
    ((∀ j < bytes.length, s.ea j ≠ u.pc.toNat) → u.fetch.extractLsb' 8 8 = s.memRead u.pc.toNat) ∧
    ((∀ j < bytes.length, s.ea j ≠ (u.pc.toNat + 1) % 4096) →
      u.fetch.extractLsb' 0 8 = s.memRead (u.pc.toNat + 1)) := by
  have hpc : u.pc.toNat % 4096 = u.pc.toNat := Nat.mod_eq_of_lt u.pc.isLt
  have hhi : u.fetch.extractLsb' 8 8 = (s.storeFrom 0 bytes).memRead u.pc.toNat :=
    (fetch_hi u).trans (memRead_congr hmem hfont _)
  have hlo : u.fetch.extractLsb' 0 8 = (s.storeFrom 0 bytes).memRead (u.pc.toNat + 1) :=
    (fetch_lo u).trans (memRead_congr hmem hfont _)
  refine ⟨fun j b hj => ⟨fun h => ?_, fun h => ?_⟩, fun h => ?_, fun h => ?_⟩
  · rw [hhi, ← h, memRead_store hj hl]
  · rw [hlo, ← State.memRead_mod, ← memRead_store hj hl, h]
  · exact hhi.trans (memRead_store_of_ne fun j hj => by rw [hpc]; exact (h j hj).symm)
  · exact hlo.trans (memRead_store_of_ne fun j hj => (h j hj).symm)

theorem decimalDigits_eq_map (b : Byte) :
    decimalDigits b = [b.toNat / 100, b.toNat / 10 % 10, b.toNat % 10].map (BitVec.ofNat 8) := rfl

/-- Settles O35: both instructions store one list of bytes at I, the registers or the digits. -/
theorem storedCodeIsFetched : Obligations.StoredCodeIsFetched := fun s t u x hmem hfont => by
  refine ⟨fun ht => ?_, fun ht => ?_⟩
  · cases (exec_opFX55_eq_next s x).symm.trans ht
    obtain ⟨hstored, hhi, hlo⟩ := fetch_after_store (length_regsUpTo_le s x) hmem hfont
    exact ⟨fun k hk => hstored k.toNat _ (regsUpTo_getElem? s hk),
      fun h => hhi (forall_offset_of_forall_register h),
      fun h => hlo (forall_offset_of_forall_register h)⟩
  · cases (exec_opFX33_eq_next s x).symm.trans ht
    obtain ⟨hstored, hhi, hlo⟩ := fetch_after_store (length_decimalDigits_le _) hmem hfont
    refine ⟨fun k b hb => hstored k _ ?_, hhi, hlo⟩
    rw [decimalDigits_eq_map, List.getElem?_map, hb, Option.map_some]

/-! ### Canonical memory (log entry 21) -/

/-- A read below every cell of a memory is of an unlisted byte. -/
theorem read_of_forall_lt {font : Config.Font} {m : Memory} {a : Nat} (h : ∀ c ∈ m, a < c.1) :
    m.read font a = Memory.unlisted font a := by
  induction m with
  | nil => rfl
  | cons c m ih =>
    obtain ⟨k, d⟩ := c
    obtain ⟨hk, hm⟩ := List.forall_mem_cons.1 h
    rw [Memory.read, if_neg (Nat.ne_of_gt hk), ih hm]

theorem read_cons_self (font : Config.Font) (k : Nat) (d : Byte) (m : Memory) :
    Memory.read font ((k, d) :: m) k = d := if_pos rfl

/-- A canonical memory lists no byte that is there unlisted, so its first cell tells it from a memory that begins
later. -/
theorem read_ne_of_forall_lt {font : Config.Font} {k : Nat} {d : Byte} {m m' : Memory}
    (hm : Memory.wf font ((k, d) :: m) = true) (h : ∀ c ∈ m', k < c.1) :
    Memory.read font ((k, d) :: m) k ≠ m'.read font k := by
  obtain ⟨-, -, hd, -⟩ := (Memory.wf_cons ..).1 hm
  rwa [read_cons_self, read_of_forall_lt h]

theorem forall_lt_cons {k k' : Nat} {d' : Byte} {m' : Memory} (hk : k < k') (h : ∀ c ∈ m', k' < c.1) :
    ∀ c ∈ (k', d') :: m', k < c.1 :=
  List.forall_mem_cons.2 ⟨hk, fun c hc => hk.trans (h c hc)⟩

/-- Settles O36: by induction on the one memory. First cells at different addresses would be seen by a read at the
lower one; at one address they hold one byte, and the rest read alike. -/
theorem canonicalMemoryIsUnique : Obligations.CanonicalMemoryIsUnique := fun font m => by
  induction m with
  | nil =>
    intro m' _ hm' hread
    cases m' with
    | nil => rfl
    | cons c m' =>
      obtain ⟨-, hlt, -, -⟩ := (Memory.wf_cons ..).1 hm'
      exact absurd (hread c.1 hlt).symm (read_ne_of_forall_lt hm' (by simp))
  | cons c m ih =>
    intro m' hm hm' hread
    obtain ⟨k, d⟩ := c
    obtain ⟨hk, hlt, hd, hw⟩ := (Memory.wf_cons ..).1 hm
    cases m' with
    | nil => exact absurd (hread k hlt) (read_ne_of_forall_lt hm (by simp))
    | cons c' m' =>
      obtain ⟨k', d'⟩ := c'
      obtain ⟨hk', hlt', hd', hw'⟩ := (Memory.wf_cons ..).1 hm'
      obtain h | rfl | h := lt_trichotomy k k'
      · exact absurd (hread k hlt) (read_ne_of_forall_lt hm (forall_lt_cons h hk'))
      · have hdd : d = d' := by simpa only [read_cons_self] using hread k hlt
        have htail : m = m' := by
          refine ih m' hw hw' fun a ha => ?_
          obtain rfl | hne := eq_or_ne k a
          · rw [read_of_forall_lt hk, read_of_forall_lt hk']
          · have := hread a ha
            rwa [Memory.read, Memory.read, if_neg hne, if_neg hne] at this
        rw [hdd, htail]
      · exact absurd (hread k' hlt').symm (read_ne_of_forall_lt hm' (forall_lt_cons h hk))

end Sys2Proof
end

section
/-! PROOF. The instructions that read the keys (spec/45_input_timers.md rules R200 and R202 to R204). -/

namespace Sys2Proof

open Sys2Proof.Machine


theorem isPressed_eq_getElem (s : State) {k : Nat} (h : k < 16) : s.isPressed k = s.keys[k] := by
  rw [State.isPressed, Vector.getElem?_eq_getElem h, Option.getD_some]

/-- A choice by whether key `k` is held, where an id above 0xF never is (D18). -/
theorem ite_isPressed {α : Type} (s : State) (k : Nat) (a b : α) :
    (if s.isPressed k = true then a else b) =
      if h : k < 16 then (if s.keys[k] = true then a else b) else b := by
  by_cases h : k < 16
  · rw [dif_pos h, isPressed_eq_getElem s h]
  · rw [dif_neg h, s.isPressed_of_le (not_lt.1 h), if_neg Bool.false_ne_true]

theorem skipIf_isPressed (s : State) (k : Nat) :
    s.skipIf (s.isPressed k) = s.setPc
      (if h : k < 16 then (if s.keys[k] = true then s.pc + 2 else s.pc) else s.pc) := by
  rw [skipIf_eq_setPc, ite_isPressed]

theorem skipIf_not_isPressed (s : State) (k : Nat) :
    s.skipIf (!s.isPressed k) = s.setPc
      (if h : k < 16 then (if s.keys[k] = true then s.pc else s.pc + 2) else s.pc + 2) := by
  rw [skipIf_eq_setPc, ← ite_isPressed]
  cases s.isPressed k <;> rfl

/-- Settles O41: each is a skip by whether the key is held, which writes PC alone. -/
theorem keySkips : Obligations.KeySkips := fun s x => by
  obtain ⟨t, ht, hpc, hmem⟩ := exec_changes_only_pc (exec_opEX9E s x) (skipIf_isPressed s _)
  obtain ⟨u, hu, hpc', hmem'⟩ := exec_changes_only_pc (exec_opEXA1 s x) (skipIf_not_isPressed s _)
  exact ⟨⟨t, ht, hmem, hpc⟩, ⟨u, hu, hmem', hpc'⟩⟩

/-- Settles O42: the key found is the lowest held one, and the write to Vx is undone for X = F. -/
theorem keyWaitTakesTheLowestKey : Obligations.KeyWaitTakesTheLowestKey := fun s x k hk hheld hlow => by
  have hkey : s.anyPressed = some k := by
    refine (s.anyPressed_eq_some k).2 ⟨(isPressed_eq_getElem s hk).trans hheld, fun j hj => ?_⟩
    exact (isPressed_eq_getElem s (hj.trans hk)).trans (hlow j hj)
  exact exec_changes_only_vx (exec_opFX0A s x) (by rw [hkey])

theorem exec_opFX0A_of_no_key {s : State} (x : Nibble) (h : s.anyPressed = none) :
    exec (.opFX0A x) s = .next (s.setPc (s.pc - 2)) :=
  (exec_opFX0A s x).trans (runHandler_eq_next_setPc (by rw [h]))

/-- Settles O43: with no key held FX0A undoes the advance of its cycle, so that the step leads back to the same
state. -/
theorem keyWaitRepeats : Obligations.KeyWaitRepeats := fun s x hkeys => by
  have hnone : s.anyPressed = none := (s.anyPressed_eq_none).2 fun k => by
    obtain hk | hk := lt_or_ge k 16
    · exact (isPressed_eq_getElem s hk).trans (hkeys k hk)
    · exact s.isPressed_of_le hk
  refine ⟨exec_opFX0A_of_no_key x hnone, fun hh hr hd => run_of_step_self ?_⟩
  have hwait : exec (.opFX0A x) s.advance = .next (s.advance.setPc (s.advance.pc - 2)) :=
    exec_opFX0A_of_no_key x hnone
  have hback : s.advance.setPc (s.advance.pc - 2) = s := by
    rw [State.pc_advance, BitVec.add_sub_cancel]
    rfl
  rw [step_of_host_nil hh, cycle_of_ok hr hd, hwait, hback]

end Sys2Proof
end

section
/-! PROOF. The sprite draw (spec/44_display.md rules R182, R186 and R187): DXYN flips the display at the points of
its sprite one after the other; the points are distinct, so that it toggles each of them once. -/

namespace Sys2Proof

open Sys2Proof.Machine

/-! ### Flips at a list of points -/

/-- A pixel's wrapped coordinates (R182). -/
def wrapped (x y : Nat) : Nat × Nat := (x % Config.dispW, y % Config.dispH)

/-- One flip with its collision, and so on along a list of points: the inner loop of DXYN (R186). -/
def flipPoint (acc : Grid × Bool) (p : Nat × Nat) : Grid × Bool :=
  (acc.1.flip p.1 p.2, acc.2 || acc.1.pixel p.1 p.2)

/-- The flips at all the points, in their order. -/
def flipAll (acc : Grid × Bool) (pts : List (Nat × Nat)) : Grid × Bool := pts.foldl flipPoint acc

theorem flipAll_cons (acc : Grid × Bool) (p : Nat × Nat) (pts : List (Nat × Nat)) :
    flipAll acc (p :: pts) = flipAll (flipPoint acc p) pts := rfl

theorem pixel_wrapped (g : Grid) (x y : Nat) :
    g.pixel (wrapped x y).1 (wrapped x y).2 = g.pixel x y := by
  simp only [wrapped, Grid.pixel, Nat.mod_mod]

theorem flip_wrapped (g : Grid) (x y : Nat) : g.flip (wrapped x y).1 (wrapped x y).2 = g.flip x y := by
  apply Grid.ext
  intro px py
  simp only [wrapped, Grid.pixel_flip, Nat.mod_mod]

theorem flipPoint_wrapped (acc : Grid × Bool) (x y : Nat) :
    flipPoint acc (wrapped x y) = (acc.1.flip x y, acc.2 || acc.1.pixel x y) := by
  rw [flipPoint, flip_wrapped, pixel_wrapped]

/-- Points whose coordinates are wrapped already. -/
def Wrapped (pts : List (Nat × Nat)) : Prop := ∀ p ∈ pts, wrapped p.1 p.2 = p

/-- A flip at a point toggles the pixel there and no other. -/
theorem pixel_flipPoint {acc : Grid × Bool} {p : Nat × Nat} (hp : wrapped p.1 p.2 = p) (px py : Nat) :
    (flipPoint acc p).1.pixel px py = (acc.1.pixel px py ^^ decide (wrapped px py = p)) := by
  rw [flipPoint, Grid.pixel_flip, ← hp]
  simp [wrapped]

/-- Flips at distinct points toggle exactly the pixels at those points. -/
theorem pixel_flipAll {pts : List (Nat × Nat)} (hw : Wrapped pts) (hnd : pts.Nodup) (acc : Grid × Bool)
    (px py : Nat) :
    (flipAll acc pts).1.pixel px py = (acc.1.pixel px py ^^ decide (wrapped px py ∈ pts)) := by
  induction pts generalizing acc with
  | nil => simp [flipAll]
  | cons p pts ih =>
    obtain ⟨hp, hpts⟩ := List.forall_mem_cons.1 hw
    obtain ⟨hnot, hnd⟩ := List.nodup_cons.1 hnd
    have hstep : (flipAll acc (p :: pts)).1.pixel px py =
        ((flipPoint acc p).1.pixel px py ^^ decide (wrapped px py ∈ pts)) := ih hpts hnd _
    rw [hstep, pixel_flipPoint hp]
    by_cases h : wrapped px py = p
    · simp [h, hnot]
    · simp [h]

/-- Flips at distinct points collide when one of the points was set before all of them. -/
theorem hit_flipAll {pts : List (Nat × Nat)} (hw : Wrapped pts) (hnd : pts.Nodup) (acc : Grid × Bool) :
    (flipAll acc pts).2 = true ↔ acc.2 = true ∨ ∃ p ∈ pts, acc.1.pixel p.1 p.2 = true := by
  induction pts generalizing acc with
  | nil => simp [flipAll]
  | cons p pts ih =>
    obtain ⟨hp, hpts⟩ := List.forall_mem_cons.1 hw
    obtain ⟨hnot, hnd⟩ := List.nodup_cons.1 hnd
    have hstep := ih hpts hnd (flipPoint acc p)
    have hsame : ∀ q ∈ pts, (flipPoint acc p).1.pixel q.1 q.2 = acc.1.pixel q.1 q.2 := by
      intro q hq
      have hne : wrapped q.1 q.2 ≠ p := fun h => hnot (h ▸ (hpts q hq).symm ▸ hq)
      rw [pixel_flipPoint hp, decide_eq_false hne, Bool.xor_false]
    have hex : (∃ q ∈ pts, (flipPoint acc p).1.pixel q.1 q.2 = true) ↔
        ∃ q ∈ pts, acc.1.pixel q.1 q.2 = true :=
      exists_congr fun q => and_congr_right fun hq => by rw [hsame q hq]
    have hhit : (flipPoint acc p).2 = true ↔ acc.2 = true ∨ acc.1.pixel p.1 p.2 = true :=
      Bool.or_eq_true_iff
    rw [flipAll_cons, hstep, hex, hhit, or_assoc, List.exists_mem_cons_iff]

/-! ### The points of a sprite (R186, R187) -/

/-- The row and column of each set bit of the sprite at I, in the order DXYN draws them. -/
def spriteBits (s : State) (n : Nat) : List (Nat × Nat) :=
  (List.product (List.range n) (List.range 8)).filter fun p => (s.memRead (s.ea p.1)).getLsbD (7 - p.2)

/-- The wrapped points those bits land on when the sprite is drawn at `(x, y)` (R182, R187). -/
def spritePoints (s : State) (x y n : Nat) : List (Nat × Nat) :=
  (spriteBits s n).map fun p => wrapped (x + p.2) (y + p.1)

/-- A column of DXYN is a flip at its wrapped point when its bit is set. -/
theorem drawColumn_eq (x y : Nat) (b : Byte) :
    drawColumn x y b = fun acc c =>
      if b.getLsbD (7 - c) then flipPoint acc (wrapped (x + c) y) else acc := by
  funext acc c
  rw [drawColumn, flipPoint_wrapped]

/-- The two loops of DXYN are one pass over the points of the sprite. -/
theorem draw_eq_flipAll (s : State) (x y n : Nat) :
    s.draw x y n = flipAll (s.fb, false) (spritePoints s x y n) := by
  rw [flipAll, spritePoints, List.foldl_map, spriteBits, List.foldl_filter]
  simp only [State.draw, drawRow, drawColumn_eq, List.product, List.foldl_flatMap,
    List.foldl_map]

theorem wrapped_spritePoints (s : State) (x y n : Nat) : Wrapped (spritePoints s x y n) := by
  intro p hp
  obtain ⟨q, -, rfl⟩ := List.mem_map.1 hp
  simp only [wrapped, Nat.mod_mod]

theorem mem_spriteBits {s : State} {n : Nat} {p : Nat × Nat} :
    p ∈ spriteBits s n ↔ p.1 < n ∧ p.2 < 8 ∧ (s.memRead (s.ea p.1)).getLsbD (7 - p.2) = true := by
  obtain ⟨row, c⟩ := p
  rw [spriteBits, List.mem_filter, List.pair_mem_product, List.mem_range, List.mem_range, and_assoc]

/-- A sprite has fewer rows and columns than the display, so no two of its bits land on one pixel. -/
theorem nodup_spritePoints (s : State) (x y : Nat) {n : Nat} (hn : n ≤ Config.dispH) :
    (spritePoints s x y n).Nodup := by
  have hbits : (spriteBits s n).Nodup := (List.nodup_range.product List.nodup_range).filter _
  refine hbits.map_on fun p hp q hq h => ?_
  obtain ⟨hrow, hcol, -⟩ := mem_spriteBits.1 hp
  obtain ⟨hrow', hcol', -⟩ := mem_spriteBits.1 hq
  obtain ⟨hx, hy⟩ := Prod.mk.inj h
  simp only [Config.dispW, Config.dispH] at hx hy hn
  exact Prod.ext (by omega) (by omega)

/-- The covered pixels of the statements are those points. -/
theorem spriteCovers_iff {s : State} {x y n px py : Nat} :
    s.SpriteCovers x y n px py ↔ (px, py) ∈ spritePoints s x y n := by
  rw [spritePoints, List.mem_map]
  constructor
  · rintro ⟨row, hrow, c, hc, hbit, hx, hy⟩
    exact ⟨(row, c), mem_spriteBits.2 ⟨hrow, hc, hbit⟩, Prod.ext hx hy⟩
  · rintro ⟨⟨row, c⟩, hp, h⟩
    obtain ⟨hrow, hc, hbit⟩ := mem_spriteBits.1 hp
    obtain ⟨hx, hy⟩ := Prod.mk.inj h
    exact ⟨row, hrow, c, hc, hbit, hx, hy⟩

/-! ### DXYN -/

theorem exec_opDXYN_eq_next (s : State) (x y n : Nibble) :
    exec (.opDXYN x y n) s = .next
      ((s.setFb (s.draw (s.getV x).toNat (s.getV y).toNat n.toNat).1).setFlag
        (s.draw (s.getV x).toNat (s.getV y).toNat n.toNat).2) := exec_opDXYN s x y n

section
variable {s t : State} {x y n : Nibble}

/-- The points DXYN flips. -/
def pointsOf (s : State) (x y n : Nibble) : List (Nat × Nat) :=
  spritePoints s (s.getV x).toNat (s.getV y).toNat n.toNat

theorem wrapped_pointsOf : Wrapped (pointsOf s x y n) := wrapped_spritePoints s _ _ _

theorem nodup_pointsOf : (pointsOf s x y n).Nodup :=
  nodup_spritePoints s _ _ (by have := n.isLt; simp only [Config.dispH]; omega)

theorem pixel_of_exec_opDXYN (ht : exec (.opDXYN x y n) s = .next t) (px py : Nat) :
    t.fb.pixel px py = (s.fb.pixel px py ^^ decide (wrapped px py ∈ pointsOf s x y n)) := by
  cases (exec_opDXYN_eq_next s x y n).symm.trans ht
  rw [State.fb_setFlag, State.fb_setFb, draw_eq_flipAll]
  exact pixel_flipAll wrapped_pointsOf nodup_pointsOf _ px py

theorem getV_VF_of_exec_opDXYN (ht : exec (.opDXYN x y n) s = .next t) :
    t.getV 0xF = if ∃ p ∈ pointsOf s x y n, s.fb.pixel p.1 p.2 = true then 1 else 0 := by
  cases (exec_opDXYN_eq_next s x y n).symm.trans ht
  rw [State.setFlag, State.getV_setV, if_pos rfl, draw_eq_flipAll, flagByte]
  refine if_congr ((hit_flipAll wrapped_pointsOf nodup_pointsOf _).trans ?_) rfl rfl
  exact or_iff_right Bool.false_ne_true

end

theorem wrapped_of_lt {px py : Nat} (hx : px < 64) (hy : py < 32) : wrapped px py = (px, py) :=
  Prod.ext (Nat.mod_eq_of_lt hx) (Nat.mod_eq_of_lt hy)

/-- Settles O38: the pixels and VF after the draw, with the covered pixels as the points of the sprite. -/
theorem spriteDrawTogglesItsPixels : Obligations.SpriteDrawTogglesItsPixels := fun s x y n => by
  have ht := exec_opDXYN_eq_next s x y n
  have hVF := getV_VF_of_exec_opDXYN ht
  refine ⟨_, ht, rfl, fun _ => rfl, fun z hz => ?_, fun px py hx hy => ?_, ?_, fun h => ?_⟩
  · rw [State.setFlag, State.getV_setV, if_neg hz, State.getV_setFb]
  · rw [pixel_of_exec_opDXYN ht, wrapped_of_lt hx hy, spriteCovers_iff, pointsOf]
    exact ⟨fun h => by rw [decide_eq_true h, Bool.xor_true],
      fun h => by rw [decide_eq_false h, Bool.xor_false]⟩
  · rintro ⟨px, py, hcov, hset⟩
    rw [hVF, if_pos ⟨(px, py), spriteCovers_iff.1 hcov, hset⟩]
  · rw [hVF, if_neg]
    rintro ⟨p, hp, hset⟩
    exact absurd ((h p.1 p.2 (spriteCovers_iff.2 hp)).symm.trans hset) Bool.false_ne_true

/-- The points depend on memory and I alone. -/
theorem spritePoints_congr {s u : State} (hmem : KeepsMemory s u) (hi : u.i = s.i) (x y n : Nat) :
    spritePoints u x y n = spritePoints s x y n := by
  have hea (k : Nat) : u.ea k = s.ea k := by rw [State.ea, State.ea, hi]
  have hread (a : Nat) : u.memRead a = s.memRead a := hmem a
  simp only [spritePoints, spriteBits, hea, hread]

/-- Settles O39: both draws flip the same points, so each pixel is toggled twice or not at all, and the second draw
collides where the first one left a pixel set. -/
theorem drawingTwiceRestoresTheDisplay : Obligations.DrawingTwiceRestoresTheDisplay :=
  fun s t u x y x' y' n ht hmem hi hfb hx hy => by
    have hc := exec_changesOnly ht
    have hi' : u.i = s.i := hi.trans (hc.i (by simp [writes]))
    have hmem' : KeepsMemory s u := fun a =>
      (hmem a).trans (memRead_congr (hc.mem (by simp [writes])) hc.font a)
    have hpts : pointsOf u x' y' n = pointsOf s x y n := by
      rw [pointsOf, hx, hy, spritePoints_congr hmem' hi', pointsOf]
    have hu := exec_opDXYN_eq_next u x' y' n
    have hset (px py : Nat) : (s.fb.pixel px py = false ∧ t.fb.pixel px py = true) ↔
        wrapped px py ∈ pointsOf s x y n ∧ t.fb.pixel px py = true := by
      rw [pixel_of_exec_opDXYN ht]
      by_cases h : wrapped px py ∈ pointsOf s x y n <;> simp [h]
    have hVF := getV_VF_of_exec_opDXYN hu
    rw [hpts, hfb] at hVF
    have hhit : (∃ p ∈ pointsOf s x y n, t.fb.pixel p.1 p.2 = true) ↔
        ∃ px py, s.fb.pixel px py = false ∧ t.fb.pixel px py = true := by
      refine ⟨fun ⟨p, hp, h⟩ => ⟨p.1, p.2, (hset p.1 p.2).2 ⟨?_, h⟩⟩, fun ⟨px, py, h⟩ => ?_⟩
      · rwa [wrapped_pointsOf p hp]
      · obtain ⟨hp, h⟩ := (hset px py).1 h
        exact ⟨_, hp, (pixel_wrapped ..).trans h⟩
    refine ⟨_, hu, Grid.ext fun px py => ?_, fun h => ?_, fun h => ?_⟩
    · rw [pixel_of_exec_opDXYN hu, hpts, hfb, pixel_of_exec_opDXYN ht, Bool.xor_assoc, Bool.xor_self,
        Bool.xor_false]
    · rw [hVF, if_pos (hhit.2 h)]
    · rw [hVF, if_neg (hhit.not.2 h)]

end Sys2Proof
end
